-- ==== Sys2Proof/Word.lean ====
section
/-! DEFINITION. The word types of the camera-link controller (rule R12: a byte is 8 bits, every value is unsigned). -/

namespace Sys2Proof

/-- A byte of a frame, of a stream or of the image (rule R12). -/
abbrev Byte := BitVec 8

/-- A host command word `HCW`, 40 bits (rule R104). -/
abbrev HostWord := BitVec 40

/-- The six parameter bytes of a command (rule R29, `NPARAM` of rule R100). -/
abbrev Params := Vector Byte 6

/-- Thirteen bytes: a command frame, or the envelope of a reply (`FRAME_LEN` of rule R100). -/
abbrev Frame := Vector Byte 13

end Sys2Proof
end

