-- ==== Sys2Proof/Config.lean ====
section
/-! DEFINITION. The configuration record `Cfg` of rule R9 and the values the spec leaves free. Every `opaque` constant
below has no body: no proof can learn its value (log entries 2, 7, 18). -/

namespace Sys2Proof

/-- The device families `Cfg.FAMILY` can name (rule R287). `FAMILY` is fixed to `primary` (decision D30), so `primary`
is the type's only value: the secondary family is described and not implemented (rule R280). -/
inductive Family where
  | primary
deriving DecidableEq, Repr

/-- The configuration record (rule R9, decision D28): what every rule may read and no rule writes. -/
structure Cfg where
  /-- `FAMILY`, the device family whose frame codec the session uses (rule R287). -/
  family : Family
  /-- `OPC_CONFIG`. -/
  opcConfig : Byte
  /-- `OPC_GETVERSION`. -/
  opcGetversion : Byte
  /-- `OPC_AUTOFOCUS`. -/
  opcAutofocus : Byte
  /-- `OPC_CAPTURE`. -/
  opcCapture : Byte
  /-- `OPC_UPLOAD`. -/
  opcUpload : Byte
  /-- `BAUD_CODE[0..7]`. -/
  baudCode : Vector Byte 8
  /-- `PKT_CODE[0..3]`. -/
  pktCode : Vector Byte 4
  /-- `FOCUS_CODE[0..2]`: auto, read, manual. -/
  focusCode : Vector Byte 3
  /-- `DEF_PKT`, an index into the packet sizes. -/
  defPkt : BitVec 2
deriving DecidableEq, Repr

/-- The constraints of rule R9 (decision D29): both code tables are injective. -/
abbrev Cfg.wf (c : Cfg) : Prop := c.baudCode.toList.Nodup ∧ c.pktCode.toList.Nodup

/-- `OPC_CONFIG` of the implementation (rule R9): open. -/
opaque Config.opcConfig : Byte
/-- `OPC_GETVERSION` of the implementation (rule R9): open. -/
opaque Config.opcGetversion : Byte
/-- `OPC_AUTOFOCUS` of the implementation (rule R9): open. -/
opaque Config.opcAutofocus : Byte
/-- `OPC_CAPTURE` of the implementation (rule R9): open. -/
opaque Config.opcCapture : Byte
/-- `OPC_UPLOAD` of the implementation (rule R9): open. -/
opaque Config.opcUpload : Byte
/-- A permutation of the bytes whose values at 0..7 are the baud codes. Every injective table of eight bytes
is the beginning of such a permutation, so nothing but injectivity (rule R9) is fixed. -/
opaque Config.baudPerm : Equiv.Perm Byte
/-- A permutation of the bytes whose values at 0..3 are the packet-size codes (rule R9, decision D29). -/
opaque Config.pktPerm : Equiv.Perm Byte
/-- The focus code of a mode index (rule R9): open, not required to be injective. -/
opaque Config.focusCode : BitVec 2 → Byte
/-- `DEF_PKT` of the implementation (rule R9): open. -/
opaque Config.defPkt : BitVec 2

/-- The free value of the n-th unspecified image byte HOST reads (rule R45, U9: never zero by choice). -/
opaque Config.freeImgByte : Nat → Byte

/-- The configuration of the implementation, made of the open constants above (rule R9). -/
def Config.cfg : Cfg where
  family := .primary
  opcConfig := Config.opcConfig
  opcGetversion := Config.opcGetversion
  opcAutofocus := Config.opcAutofocus
  opcCapture := Config.opcCapture
  opcUpload := Config.opcUpload
  baudCode := #v[Config.baudPerm 0, Config.baudPerm 1, Config.baudPerm 2, Config.baudPerm 3,
    Config.baudPerm 4, Config.baudPerm 5, Config.baudPerm 6, Config.baudPerm 7]
  pktCode := #v[Config.pktPerm 0, Config.pktPerm 1, Config.pktPerm 2, Config.pktPerm 3]
  focusCode := #v[Config.focusCode 0, Config.focusCode 1, Config.focusCode 2]
  defPkt := Config.defPkt

end Sys2Proof
end

