-- ==== Sys2Proof/Syntax.lean ====
section
/-! DEFINITION. The instructions: one constructor per row of spec/opcode_table.json. A host operation is the HOST step
that issues it (rule R170); a wire command is the CTRL step that transmits its frame; a reply is the CTRL step that
receives it (rule R17; log entry 4). -/

namespace Sys2Proof

/-- The wire commands (rule R113), and so the five kinds of frame the block can send. -/
inductive WireCmd where
  | config | getversion | autofocus | capture | upload
deriving DecidableEq, Repr

/-- The rows of the opcode table. -/
inductive Instr where
  /-- `OPEN b, t` (rule R175): baud index, timeout in ticks. -/
  | openOp (baud : BitVec 3) (ticks : BitVec 32)
  /-- `CLOSE` (rule R178). -/
  | closeOp
  /-- `CONFIGURE b, s` (rule R181): baud index, packet-size index. -/
  | configure (baud : BitVec 3) (pkt : BitVec 2)
  /-- `GETVERSION` (rule R189). -/
  | getversion
  /-- `AUTOFOCUS m, v` (rule R194): mode index (3 is rejected at issue), manual value. -/
  | autofocus (mode : BitVec 2) (value : BitVec 16)
  /-- `CAPTURE r, c, f, e` (rule R200): resolution, colour mode, format, exposure. -/
  | capture (resolution colour format exposure : Byte)
  /-- `UPLOAD` (rule R220). -/
  | upload
  /-- `RESET` (rule R209): a command to the camera, not the hardware reset. -/
  | reset
  /-- `HCW.RESERVED` (rule R117): a reserved host code. -/
  | hcwReserved (code : BitVec 4)
  /-- `W.CONFIG` (rule R106): the baud index and packet-size index whose codes fill the first two slots. -/
  | wConfig (baud : BitVec 3) (pkt : BitVec 2)
  /-- `W.GETVERSION` (rule R107). -/
  | wGetversion
  /-- `W.AUTOFOCUS` (rule R108): the focus code byte and the value of slots 1 and 2. -/
  | wAutofocus (code : Byte) (value : BitVec 16)
  /-- `W.CAPTURE` (rule R109). -/
  | wCapture (resolution colour format exposure : Byte)
  /-- `W.UPLOAD` (rule R110): packet index and packet count. -/
  | wUpload (index count : BitVec 16)
  /-- `RSP13` (rule R102): status, six payload bytes, checksum byte. -/
  | rsp13 (status : Byte) (body : Params) (cksum : Byte)
  /-- `RSPUP` (rule R103): status, six envelope bytes, image payload, checksum byte. -/
  | rspup (status : Byte) (envelope : Params) (payload : List Byte) (cksum : Byte)
  /-- `SEC.FRAME` (rule R281): the secondary family's opcode, length byte and parameter bytes. -/
  | secFrame (opcode len : Byte) (params : List Byte)
deriving DecidableEq, Repr

/-- The words of an instruction with the port they cross: a host command word, the frame of a wire command, or the
bytes of a received frame. The direction and the command in progress are not in the bits (rule R116). -/
inductive Code where
  | hcw (w : HostWord)
  | command (k : WireCmd) (f : List Byte)
  | reply (f : List Byte)
deriving DecidableEq, Repr

end Sys2Proof
end

