-- ==== Sys2Proof/WellFormed.lean ====
section
/-! DEFINITION. Which instructions the spec's formats can hold. Operands that the spec rejects at issue (AUTOFOCUS mode
index 3, a manual value above 750) are well formed: the word exists and ISSUE answers it (rule R170). -/

namespace Sys2Proof

/-- The well-formedness of an instruction, one check per row that has one. -/
def WellFormed : Instr → Bool
  | .openOp _ _ => true
  | .closeOp => true
  | .configure _ _ => true
  | .getversion => true
  | .autofocus _ _ => true
  | .capture _ _ _ _ => true
  | .upload => true
  | .reset => true
  -- rule R117: the reserved codes are 0 and 9 to 15
  | .hcwReserved code => code == 0 || 9 ≤ code.toNat
  | .wConfig _ _ => true
  | .wGetversion => true
  -- rule R108: the manual value lies in [0, 750]
  | .wAutofocus _ value => value.toNat ≤ 750
  | .wCapture _ _ _ _ => true
  -- rule R24: the index is 1-based and at most the count
  | .wUpload index count => 1 ≤ index.toNat && index.toNat ≤ count.toNat
  | .rsp13 _ _ _ => true
  -- rule R103: L in 1..2048
  | .rspup _ _ payload _ => 1 ≤ payload.length && payload.length ≤ 2048
  | .secFrame _ _ _ => true

end Sys2Proof
end

