-- ==== Sys2Proof/Decode.lean ====
section
/-! DEFINITION. Byte order, frame layout, the checksum, the decoder (total, rejecting by name) and, after it, the
encoder, written from spec/30_encoding.md and spec/40_framecodec.md. -/

namespace Sys2Proof

/-! ### Byte order (rule R14, rule R74) -/

/-- `hi8(v) = v[15:8]` (rule R14). -/
def hi8 (v : BitVec 16) : Byte := v.extractLsb' 8 8

/-- `lo8(v) = v[7:0]` (rule R14). -/
def lo8 (v : BitVec 16) : Byte := v.extractLsb' 0 8

/-- `be2(b0, b1) = b0 * 256 + b1`, 16 bits (rule R14). -/
def be2 (b0 b1 : Byte) : BitVec 16 := BitVec.ofNat 16 (b0.toNat * 256 + b1.toNat)

/-- `be3(b0, b1, b2) = b0 * 65536 + b1 * 256 + b2`, 24 bits (rule R14). -/
def be3 (b0 b1 b2 : Byte) : BitVec 24 :=
  BitVec.ofNat 24 (b0.toNat * 65536 + b1.toNat * 256 + b2.toNat)

/-! ### Frame constants, the checksum and the command frame -/

/-- `HDR`, the four constant header bytes (rule R100). -/
def frameHeader : List Byte := [0x7E, 0x00, 0x08, 0x00]

/-- `TAIL`, the constant tail byte (rule R100). -/
def frameTail : Byte := 0xE7

/-- The sum of some bytes modulo 256 (rule R142: the order of the additions does not matter). -/
def sumBytes : List Byte → Byte
  | [] => 0
  | b :: bs => b + sumBytes bs

/-- `CKSUM(f, a, b)`: the sum of positions `a` to `b`, both inclusive, modulo 256 (rule R141). -/
def cksum (f : List Byte) (a b : Nat) : Byte := sumBytes ((f.drop a).take (b + 1 - a))

/-- The frame ENCODE builds from an opcode and six parameters (rule R101, rule R143). -/
def frameOf (opc : Byte) (p : Params) : Frame :=
  #v[0x7E, 0x00, 0x08, 0x00, opc, p[0], p[1], p[2], p[3], p[4], p[5],
    cksum [0x7E, 0x00, 0x08, 0x00, opc, p[0], p[1], p[2], p[3], p[4], p[5]] 1 10, frameTail]

/-! ### Code tables of `Cfg` and parameter slots (rules R105 to R110) -/

/-- The opcode of a wire command (rule R113). -/
def Cfg.opcode (c : Cfg) : WireCmd → Byte
  | .config => c.opcConfig
  | .getversion => c.opcGetversion
  | .autofocus => c.opcAutofocus
  | .capture => c.opcCapture
  | .upload => c.opcUpload

/-- `Cfg.BAUD_CODE[b]` (rule R9). -/
def Cfg.baud (c : Cfg) (b : BitVec 3) : Byte := c.baudCode[b.toNat]'b.isLt

/-- `Cfg.PKT_CODE[s]` (rule R9). -/
def Cfg.pkt (c : Cfg) (s : BitVec 2) : Byte := c.pktCode[s.toNat]'s.isLt

/-- `Cfg.FOCUS_CODE[m]` (rule R9); index 3 has no code and is rejected before it is looked up (rule R194). -/
def Cfg.focus (c : Cfg) (m : BitVec 2) : Byte := c.focusCode.toList.getD m.toNat 0

/-- `BAUD_OF_CODE(x)`: the baud index with that code, if any (rule R261). -/
def Cfg.baudOfCode (c : Cfg) (x : Byte) : Option (BitVec 3) :=
  if c.baudCode.toList.idxOf x < 8 then some (BitVec.ofNat 3 (c.baudCode.toList.idxOf x)) else none

/-- The packet-size index with that code, if any (rule R261). -/
def Cfg.pktOfCode (c : Cfg) (x : Byte) : Option (BitVec 2) :=
  if c.pktCode.toList.idxOf x < 4 then some (BitVec.ofNat 2 (c.pktCode.toList.idxOf x)) else none

/-- CONFIG parameters (rule R106). -/
def paramsConfig (c : Cfg) (b : BitVec 3) (s : BitVec 2) : Params := #v[c.baud b, c.pkt s, 0, 0, 0, 0]

/-- GETVERSION parameters (rule R107). -/
def paramsNone : Params := #v[0, 0, 0, 0, 0, 0]

/-- AUTOFOCUS parameters: the focus code and the value, high byte first (rule R108). -/
def paramsFocus (code : Byte) (value : BitVec 16) : Params := #v[code, hi8 value, lo8 value, 0, 0, 0]

/-- CAPTURE parameters (rule R109). -/
def paramsCapture (r c f e : Byte) : Params := #v[r, c, f, e, 0, 0]

/-- UPLOAD parameters (rule R110). -/
def paramsUpload (index count : BitVec 16) : Params :=
  #v[0x01, hi8 index, lo8 index, hi8 count, lo8 count, 0x00]

/-! ### The decoder -/

/-- Why some words are no instruction. -/
inductive DecodeError where
  /-- Not a frame ENCODE builds: length, header, checksum or tail (rule R101). -/
  | badFrame
  /-- The opcode is not the one `Cfg` gives the command (rule R113). -/
  | badOpcode
  /-- A baud or packet-size code that is in no table of `Cfg` (rule R106). -/
  | unknownCode
  /-- A parameter slot does not hold the constant its rule gives (rules R105 to R110). -/
  | badSlot
  /-- The operands are outside what the format holds (`WellFormed`). -/
  | illFormed
  /-- A received window of fewer than 13 bytes (rule R102). -/
  | tooShort
  /-- A received window whose positions 0 to 3 are not `HDR` (rule R115). -/
  | badHeader
  /-- A received window whose last position is not `TAIL` (rule R115). -/
  | badTail
deriving DecidableEq, Repr

/-- The instruction a host command word stands for: total, ignored bits ignored (rule R104, rule R114). -/
def decodeHcw (w : HostWord) : Instr :=
  match (w.extractLsb' 36 4).toNat with
  | 1 => .openOp (w.extractLsb' 32 3) (w.extractLsb' 0 32)
  | 2 => .closeOp
  | 3 => .configure (w.extractLsb' 32 3) (w.extractLsb' 0 2)
  | 4 => .getversion
  | 5 => .autofocus (w.extractLsb' 32 2) (w.extractLsb' 0 16)
  | 6 => .capture (w.extractLsb' 24 8) (w.extractLsb' 16 8) (w.extractLsb' 8 8) (w.extractLsb' 0 8)
  | 7 => .upload
  | 8 => .reset
  | _ => .hcwReserved (w.extractLsb' 36 4)

/-- Accept `i` when the six slots hold exactly what its rule puts there. -/
def acceptSlots (p want : Params) (i : Instr) : Except DecodeError Instr :=
  if p ≠ want then .error .badSlot else if WellFormed i then .ok i else .error .illFormed

/-- The wire command a frame of kind `k` stands for (rule R101, rules R106 to R110). The kind is the machine's to
know: the opcodes of `Cfg` need not be distinct (rule R9, rule R116). -/
def decodeCommand (c : Cfg) (k : WireCmd) (f : List Byte) : Except DecodeError Instr :=
  let opc := f.getD 4 0
  let p : Params := #v[f.getD 5 0, f.getD 6 0, f.getD 7 0, f.getD 8 0, f.getD 9 0, f.getD 10 0]
  if f ≠ (frameOf opc p).toList then .error .badFrame
  else if opc ≠ c.opcode k then .error .badOpcode
  else
    match k with
    | .config =>
      match c.baudOfCode p[0], c.pktOfCode p[1] with
      | some b, some s => acceptSlots p (paramsConfig c b s) (.wConfig b s)
      | _, _ => .error .unknownCode
    | .getversion => acceptSlots p paramsNone .wGetversion
    | .autofocus => acceptSlots p (paramsFocus p[0] (be2 p[1] p[2])) (.wAutofocus p[0] (be2 p[1] p[2]))
    | .capture => acceptSlots p (paramsCapture p[0] p[1] p[2] p[3]) (.wCapture p[0] p[1] p[2] p[3])
    | .upload =>
      acceptSlots p (paramsUpload (be2 p[1] p[2]) (be2 p[3] p[4])) (.wUpload (be2 p[1] p[2]) (be2 p[3] p[4]))

/-- The reply a received window stands for (rules R102, R103, R120, R281). -/
def decodeReply (f : List Byte) : Except DecodeError Instr :=
  if 4 ≤ f.length ∧ f.take 2 = [0x56, 0x00] then .ok (.secFrame (f.getD 2 0) (f.getD 3 0) (f.drop 4))
  else if f.length < 13 then .error .tooShort
  else if f.take 4 ≠ frameHeader then .error .badHeader
  else if f.getD (f.length - 1) 0 ≠ frameTail then .error .badTail
  else
    let six : Params := #v[f.getD 5 0, f.getD 6 0, f.getD 7 0, f.getD 8 0, f.getD 9 0, f.getD 10 0]
    let ck := f.getD (f.length - 2) 0
    let i : Instr :=
      if f.length = 13 then .rsp13 (f.getD 4 0) six ck
      else .rspup (f.getD 4 0) six ((f.drop 11).take (f.length - 13)) ck
    if WellFormed i then .ok i else .error .illFormed

/-- The decoder: total on the words of every port. -/
def decode (c : Cfg) : Code → Except DecodeError Instr
  | .hcw w => .ok (decodeHcw w)
  | .command k f => decodeCommand c k f
  | .reply f => decodeReply f

/-! ### The encoder -/

/-- A host command word from its fields; bit 35 is ignored and written 0 (rule R104). -/
def hcwOf (code : BitVec 4) (a : BitVec 3) (w : BitVec 32) : HostWord := code ++ 0#1 ++ a ++ w

/-- The bytes of an `RSP13` reply (rule R102). -/
def rsp13Bytes (status : Byte) (body : Params) (ck : Byte) : List Byte :=
  frameHeader ++ (status :: body.toList) ++ [ck, frameTail]

/-- The bytes of an `RSPUP` reply (rule R103). -/
def rspupBytes (status : Byte) (envelope : Params) (payload : List Byte) (ck : Byte) : List Byte :=
  frameHeader ++ (status :: envelope.toList) ++ payload ++ [ck, frameTail]

/-- The bytes of a secondary-family frame (rule R281). -/
def secFrameBytes (opcode len : Byte) (params : List Byte) : List Byte := [0x56, 0x00, opcode, len] ++ params

/-- The words of an instruction, from the encoding tables of the spec; ignored bits are written 0. -/
def encode (c : Cfg) : Instr → Code
  | .openOp b t => .hcw (hcwOf 1 b t)
  | .closeOp => .hcw (hcwOf 2 0 0)
  | .configure b s => .hcw (hcwOf 3 b (0#30 ++ s))
  | .getversion => .hcw (hcwOf 4 0 0)
  | .autofocus m v => .hcw (hcwOf 5 (0#1 ++ m) (0#16 ++ v))
  | .capture r k f e => .hcw (hcwOf 6 0 (r ++ k ++ f ++ e))
  | .upload => .hcw (hcwOf 7 0 0)
  | .reset => .hcw (hcwOf 8 0 0)
  | .hcwReserved code => .hcw (hcwOf code 0 0)
  | .wConfig b s => .command .config (frameOf c.opcConfig (paramsConfig c b s)).toList
  | .wGetversion => .command .getversion (frameOf c.opcGetversion paramsNone).toList
  | .wAutofocus code v => .command .autofocus (frameOf c.opcAutofocus (paramsFocus code v)).toList
  | .wCapture r k f e => .command .capture (frameOf c.opcCapture (paramsCapture r k f e)).toList
  | .wUpload i n => .command .upload (frameOf c.opcUpload (paramsUpload i n)).toList
  | .rsp13 st body ck => .reply (rsp13Bytes st body ck)
  | .rspup st env payload ck => .reply (rspupBytes st env payload ck)
  | .secFrame op len params => .reply (secFrameBytes op len params)

/-! ### The opcode table's numbering of words -/

/-- The bytes of a wire row of the opcode table: the table numbers a frame with position 0 in its most significant
byte; positions the table gives no bits hold 0, up to the shortest window the block reads (13 bytes, rule R102). -/
def tableBytes (nbits w : Nat) : List Byte :=
  (List.range (nbits / 8)).reverse.map (fun i => BitVec.ofNat 8 (w / 256 ^ i)) ++
    List.replicate (13 - nbits / 8) 0

/-- The instruction the decoder reads from a row of the opcode table: 40 bits are a host command word, every other
width is a received window, since the block never decodes a command frame (rule R116; log entry 11). -/
def decodeTableWord (nbits w : Nat) : Option Instr :=
  if nbits = 40 then some (decodeHcw (BitVec.ofNat 40 w))
  else (decodeReply (tableBytes nbits w)).toOption

end Sys2Proof
end

