-- ==== Sys2Proof/Machine/State.lean ====
section
/-! DEFINITION. The state of the block (rule R20): every register of rule R49, the image memory, the receive queue and
the wire history; and the model's own fields, named as such. -/

namespace Sys2Proof.Machine

/-- The session states (rule R22); the unused code 7 is never written (rule R117). -/
inductive SState where
  | disconnected | configuring | ready | focusing | capturing | uploading | resetting
deriving DecidableEq, Repr

/-- The positions of the micro-sequencer, the register `step` (rule R23). -/
inductive MicroStep where
  | idle | tx | rx | switch
deriving DecidableEq, Repr

/-- The host operations, the register `op` (rule R25). -/
inductive Op where
  | none | openOp | closeOp | configure | getversion | autofocus | capture | upload | reset
deriving DecidableEq, Repr

/-- The result kinds held in `err` and `pkt_err` (rule R34, rule R300). -/
inductive ErrKind where
  | ok | malformed | device | timeout | checksum | incomplete | state | param | order
deriving DecidableEq, Repr

/-- The image memory as (address, byte) pairs; an unlisted address holds no defined byte (rule R45). -/
abbrev Memory := List Host.Cell

/-- One move of an agent (rule R11). The list of moves to come is the schedule, with what HOST and DEV do in it. -/
inductive Move where
  /-- HOST presents a command word (rule R170). -/
  | host (w : HostWord)
  /-- HOST writes `ctrl` (rule R38). -/
  | writeCtrl (x : BitVec 32)
  /-- HOST reads the register of a number (rule R21). -/
  | readReg (r : Nat)
  /-- HOST reads `n` bytes of the image from address `a` (rule R15, rule R45). -/
  | readImg (a n : Nat)
  /-- DEV sends one byte (rule R262). -/
  | dev (x : Byte)
  /-- CTRL takes the micro-step that is enabled, if any (rule R17). -/
  | ctrl
  /-- The hardware reset input is asserted (rule R340). -/
  | hwReset
deriving DecidableEq, Repr

/-- Reasons a step can stop the machine. -/
inductive Fault where
  /-- CMD_RX accepted a reply while `op` names no command, so that no rule gives a commit (rule R173). Raised by the
  reply meanings; no state that meets `State.Inv` raises it. Safe: the model stops where the spec gives no effect. -/
  | noCommitRule
deriving DecidableEq, Repr

/-- Reasons a step can be refused. -/
inductive Refusal where
  /-- Raised by `exec` for an instruction with no meaning: none is left. Safe. -/
  | notModelled (mnemonic : String)
  /-- Raised by a HOST read of a register number that rule R49 does not list. Safe: the spec has no such register. -/
  | noSuchRegister (r : Nat)
  /-- Raised by SEC.FRAME when no read is outstanding: the block does not speak the secondary protocol, and rule R280
  has a model refuse it by name. Safe. -/
  | secondaryVariantNotImplemented
deriving DecidableEq, Repr

/-- The whole state of the machine. -/
structure State where
  /-- `sstate` (rule R22). -/
  sstate : SState
  /-- `step` (rule R23); `busy` is that it is not idle. -/
  mstep : MicroStep
  /-- `op` (rule R25). -/
  op : Op
  /-- `err` (rule R34). -/
  err : ErrKind
  /-- `ctrl`, bit 0 is `rxck` (rule R38). -/
  ctrl : BitVec 1
  /-- `baud_sel` (rule R39). -/
  baudSel : BitVec 3
  /-- `pkt_sel` (rule R40). -/
  pktSel : BitVec 2
  /-- `timeout` (rule R41). -/
  timeout : BitVec 32
  /-- `link_open` (rule R35). -/
  linkOpen : Bool
  /-- `cap_valid` (rule R36). -/
  capValid : Bool
  /-- `total_bytes` (rule R42). -/
  totalBytes : BitVec 24
  /-- `packet_count` (rule R43). -/
  packetCount : BitVec 16
  /-- `idx` (rule R24). -/
  idx : BitVec 16
  /-- `buf_len` (rule R44). -/
  bufLen : BitVec 27
  /-- `skip_count` (rule R37). -/
  skipCount : BitVec 16
  /-- `CK`, the checksum accumulator (rule R33). -/
  ck : Byte
  /-- `OPC` (rule R28). -/
  opc : Byte
  /-- `P[0..5]` (rule R29). -/
  p : Params
  /-- `TXF[0..12]` (rule R30). -/
  txf : Frame
  /-- `RB[0..12]` (rule R31); `status` is its position 4 (rule R32). -/
  rb : Frame
  /-- `rx_need` (rule R26). -/
  rxNeed : BitVec 12
  /-- `pkt_err` (rule R37). -/
  pktErr : ErrKind
  /-- `nbaud` (rule R27). -/
  nbaud : BitVec 3
  /-- `npkt` (rule R27). -/
  npkt : BitVec 2
  /-- `IMG` (rule R45). -/
  img : Memory
  /-- `rx_fifo`, the head first (rule R46). -/
  rxFifo : List Byte
  /-- `tx_log`, the oldest byte first, each with its baud index (rule R47). -/
  txLog : List (BitVec 3 × Byte)
  /-- The model's own: the configuration record, which no step writes (rule R9; log entry 2). -/
  cfg : Cfg
  /-- The model's own: the moves the agents make next (rule R17; log entry 1). -/
  agenda : List Move
  /-- The model's own: what HOST's last register read delivered (log entry 9). -/
  hostReg : BitVec 32
  /-- The model's own: what HOST's last image read delivered (log entry 9). -/
  hostMem : List Byte
  /-- The model's own: how many free draws of image bytes have been made (rule R45; log entry 7). -/
  draws : Nat
deriving DecidableEq, Repr

/-- The state after the hardware reset under a configuration: the table of rule R49 (rule R340, rule R341). -/
def State.resetWith (c : Cfg) : State where
  sstate := .disconnected
  mstep := .idle
  op := .none
  err := .ok
  ctrl := 0
  baudSel := 4
  pktSel := c.defPkt
  timeout := 0
  linkOpen := false
  capValid := false
  totalBytes := 0
  packetCount := 0
  idx := 0
  bufLen := 0
  skipCount := 0
  ck := 0
  opc := 0
  p := #v[0, 0, 0, 0, 0, 0]
  txf := #v[0, 0, 0, 0, 0, 0, 0, 0, 0, 0, 0, 0, 0]
  rb := #v[0, 0, 0, 0, 0, 0, 0, 0, 0, 0, 0, 0, 0]
  rxNeed := 0
  pktErr := .ok
  nbaud := 4
  npkt := c.defPkt
  img := []
  rxFifo := []
  txLog := []
  cfg := c
  agenda := []
  hostReg := 0
  hostMem := []
  draws := 0

/-- The machine right after reset (rule R340). -/
def State.reset : State := State.resetWith Config.cfg

end Sys2Proof.Machine
end

