-- ==== Sys2Proof/Machine/Operands.lean ====
section
/-! DEFINITION. Register codes, the constant tables, what an operation reads: packet sizes and lengths, legality, operand
ranges, the command in progress, and the register file as HOST reads it. -/

namespace Sys2Proof.Machine

/-! ### Encodings of the enumerated registers (decision D7) -/

/-- The code of a session state (rule R22). -/
def sstateCode : SState → BitVec 3
  | .disconnected => 0
  | .configuring => 1
  | .ready => 2
  | .focusing => 3
  | .capturing => 4
  | .uploading => 5
  | .resetting => 6

/-- The code of a micro-step (rule R23). -/
def mstepCode : MicroStep → BitVec 2
  | .idle => 0
  | .tx => 1
  | .rx => 2
  | .switch => 3

/-- The code of a host operation (rule R25), equal to its host code (rule R114). -/
def opCode : Op → BitVec 4
  | .none => 0
  | .openOp => 1
  | .closeOp => 2
  | .configure => 3
  | .getversion => 4
  | .autofocus => 5
  | .capture => 6
  | .upload => 7
  | .reset => 8

/-- The code of a result kind (rule R34, rule R300). -/
def errCode : ErrKind → BitVec 4
  | .ok => 0
  | .malformed => 1
  | .device => 2
  | .timeout => 3
  | .checksum => 4
  | .incomplete => 5
  | .state => 6
  | .param => 7
  | .order => 8

/-! ### Constant tables (rule R8) -/

/-- `BAUD_RATE[b]` in bits per second (rule R8); no step reads it. -/
def baudRate (b : BitVec 3) : Nat := [9600, 19200, 38400, 57600, 115200, 230400, 460800, 921600].getD b.toNat 0

/-- `PKT_SIZE[s]` in bytes (rule R8). -/
def pktSize (s : BitVec 2) : Nat := 256 * 2 ^ s.toNat

/-! ### What an operation reads -/

/-- `busy`: an operation is in progress (rule R23). -/
def busy (s : State) : Bool := s.mstep != .idle

/-- `LEGAL`: is the operation accepted in that session state, when not busy (rule R171)? -/
def legal (o : Op) (st : SState) (capValid : Bool) : Bool :=
  match o with
  | .none => false
  | .openOp => st == .disconnected
  | .closeOp => true
  | .configure => st == .configuring
  | .getversion => st == .ready
  | .autofocus => st == .ready
  | .capture => st == .ready
  | .upload => st == .ready && capValid
  | .reset => st == .ready

/-- The operand range of AUTOFOCUS: not mode index 3, and at most 750 in manual mode (rule R194). -/
def focusInRange (mode : BitVec 2) (value : BitVec 16) : Bool :=
  mode != 3 && (mode != 2 || value.toNat ≤ 750)

/-- The value AUTOFOCUS sends: the operand in manual mode, zero in the other modes (rule R108). -/
def focusValue (mode : BitVec 2) (value : BitVec 16) : BitVec 16 := if mode = 2 then value else 0

/-- The wire command an operation sends in CMD_TX (rule R113); UPLOAD sends its own in UP_TX (rule R224). -/
def wireOf : Op → Option WireCmd
  | .configure => some .config
  | .getversion => some .getversion
  | .autofocus => some .autofocus
  | .capture => some .capture
  | .reset => some .config
  | .none => Option.none
  | .openOp => Option.none
  | .closeOp => Option.none
  | .upload => Option.none

/-- `expectedLength(i)`: the payload length of packet `i` (rule R223). -/
def expectedLength (s : State) (i : BitVec 16) : Nat :=
  if i ≠ s.packetCount then pktSize s.pktSel
  else if s.totalBytes.toNat % pktSize s.pktSel = 0 then pktSize s.pktSel
  else s.totalBytes.toNat % pktSize s.pktSel

/-- How many bytes the outstanding read asks for: 13 in CMD_RX and CMD_TIMEOUT (rules R173, R174), `rx_need` in UP_RX
and UP_TIMEOUT (rules R226, R229). -/
def readLen (s : State) : Nat := if s.sstate = .uploading then s.rxNeed.toNat else 13

/-! ### Image memory (rules R45, R70, R73) -/

/-- The canonical form of the image memory: addresses strictly rising. No entry can equal what an unlisted address
reads as, which is no byte at all (log entry 8). -/
abbrev Memory.wf (m : Memory) : Prop := (m.map Prod.fst).Pairwise (· < ·)

/-- The byte listed at an address, if any. -/
def Memory.read (m : Memory) (a : Nat) : Option Byte := (m.find? (fun c => c.1 == a)).map Prod.snd

/-- The cells of some bytes laid out from an address upward. -/
def cellsFrom (a : Nat) : List Byte → Memory
  | [] => []
  | b :: bs => (a, b) :: cellsFrom (a + 1) bs

/-- `MemWrite(a, n, v)` with `n = |v|`: store the bytes from address `a` upward (rule R15). -/
def Memory.write (m : Memory) (a : Nat) (v : List Byte) : Memory :=
  m.filter (fun c => c.1 < a) ++ cellsFrom a v ++ m.filter (fun c => a + v.length ≤ c.1)

/-- The defined content of an image address: only below `buf_len` (rule R45). -/
def imgByte (s : State) (a : Nat) : Option Byte := if a < s.bufLen.toNat then s.img.read a else none

/-! ### The register file as HOST reads it (rule R21, rule R49) -/

/-- The value HOST reads from a register number, zero-extended to 32 bits; `none` where rule R49 lists none. -/
def regRead (s : State) (r : Nat) : Option (BitVec 32) :=
  match r with
  | 0 => some ((sstateCode s.sstate).setWidth 32)
  | 1 => some ((mstepCode s.mstep).setWidth 32)
  | 2 => some ((opCode s.op).setWidth 32)
  | 3 => some ((errCode s.err).setWidth 32)
  | 4 => some (s.ctrl.setWidth 32)
  | 5 => some (s.baudSel.setWidth 32)
  | 6 => some (s.pktSel.setWidth 32)
  | 7 => some s.timeout
  | 8 => some ((BitVec.ofBool s.linkOpen).setWidth 32)
  | 9 => some ((BitVec.ofBool s.capValid).setWidth 32)
  | 10 => some (s.totalBytes.setWidth 32)
  | 11 => some (s.packetCount.setWidth 32)
  | 12 => some (s.idx.setWidth 32)
  | 13 => some (s.bufLen.setWidth 32)
  | 14 => some (s.skipCount.setWidth 32)
  | 15 => some (s.rb[4].setWidth 32)
  | 16 => some (s.ck.setWidth 32)
  | 17 => some (s.opc.setWidth 32)
  | 50 => some (s.rxNeed.setWidth 32)
  | 51 => some ((errCode s.pktErr).setWidth 32)
  | 52 => some (s.nbaud.setWidth 32)
  | 53 => some (s.npkt.setWidth 32)
  | r =>
    if 18 ≤ r ∧ r ≤ 23 then (s.p.toList[r - 18]?).map (·.setWidth 32)
    else if 24 ≤ r ∧ r ≤ 36 then (s.txf.toList[r - 24]?).map (·.setWidth 32)
    else if 37 ≤ r ∧ r ≤ 49 then (s.rb.toList[r - 37]?).map (·.setWidth 32)
    else none

end Sys2Proof.Machine
end

