-- ==== Sys2Proof/Machine/Flags.lean ====
section
/-! DEFINITION. The checks that set a result kind: the checksum switch, the reply checks in their order, the status test,
the capture reply and the completion of an upload (spec/40_framecodec.md, spec/42_chunked_transfer.md). -/

namespace Sys2Proof.Machine

/-- `ctrl.rxck` (rule R38). -/
def rxck (s : State) : Bool := s.ctrl == 1

/-- What DECODE returns on success (rule R145). -/
structure Reply where
  /-- Position 4. -/
  status : Byte
  /-- Positions 5 to `n - 3`. -/
  body : List Byte
deriving DecidableEq, Repr

/-- Checks 1 to 3 of DECODE: length, header, tail (rule R145, rule R301). -/
def envelopeOk (v : List Byte) (n : Nat) : Bool :=
  v.length == n && v.take 4 == frameHeader && v.getD (n - 1) 0 == frameTail

/-- The sum DECODE computes over positions 1 to `n - 3` (rule R148). -/
def replySum (v : List Byte) (n : Nat) : Byte := cksum v 1 (n - 3)

/-- The result of DECODE (rule R145), with `ctrl.rxck` given; the order of the checks is rule R147's. -/
def replyCheck (check : Bool) (v : List Byte) (n : Nat) : Except ErrKind Reply :=
  if !envelopeOk v n then .error .malformed
  else if check && v.getD (n - 2) 0 != replySum v n then .error .checksum
  else .ok { status := v.getD 4 0, body := (v.drop 5).take (n - 7) }

/-- What DECODE leaves in `CK`: the computed sum when check 4 is reached, else the old value (rule R145). -/
def replyCk (check : Bool) (v : List Byte) (n : Nat) (old : Byte) : Byte :=
  if envelopeOk v n && check then replySum v n else old

/-- STATUS_CHECK (rule R151). -/
def statusCheck (status : Byte) : Except ErrKind Unit := if status = 0 then .ok () else .error .device

/-- DECODE_CAPTURE: the total and the packet count (rule R152, rule R111). -/
def decodeCapture (v : List Byte) : Except ErrKind (BitVec 24 × BitVec 16) :=
  if v.getD 4 0 ≠ 0 then .error .device
  else .ok (be3 (v.getD 5 0) (v.getD 6 0) (v.getD 7 0), be2 (v.getD 8 0) (v.getD 9 0))

/-- The result of a finished upload: OK exactly when `buf_len = total_bytes` (rule R233, rule R238). -/
def completionErr (bufLen : BitVec 27) (totalBytes : BitVec 24) : ErrKind :=
  if bufLen.toNat = totalBytes.toNat then .ok else .incomplete

end Sys2Proof.Machine
end

