-- ==== Sys2Proof/Machine/Ops.lean ====
section
/-! DEFINITION. The shared operations: transport, codec, the abort (the block's trap entry), issue, the micro-steps of the
session and of the packet sequencer, and the steps of HOST and DEV that are no instruction. -/

namespace Sys2Proof.Machine

/-- The outcome of a step of this machine. -/
abbrev Result := Host.Outcome State Fault Refusal

/-! ### Transport (spec/43_transport.md) -/

/-- T_OPEN(`b`, `t`) (rule R251). -/
def tOpen (b : BitVec 3) (t : BitVec 32) (s : State) : State :=
  { s with linkOpen := true, baudSel := b, timeout := t, rxFifo := [] }

/-- T_CLOSE() (rule R252). -/
def tClose (s : State) : State := { s with linkOpen := false, rxFifo := [] }

/-- T_WRITE(`f`): all 13 bytes in one step, each with the rate in force (rule R254). -/
def tWrite (f : Frame) (s : State) : State := { s with txLog := s.txLog ++ f.toList.map (fun x => (s.baudSel, x)) }

/-- T_READEXACT(`n`), success case: the first `n` queued bytes, removed; `none` while fewer are queued (rule R256). -/
def tReadExact (n : Nat) (s : State) : Option (List Byte × State) :=
  if n ≤ s.rxFifo.length then some (s.rxFifo.take n, { s with rxFifo := s.rxFifo.drop n }) else none

/-- T_READEXACT, timeout case: the queued bytes are consumed and lost (rule R257). -/
def tReadTimeout (s : State) : State := { s with rxFifo := [] }

/-- T_SETBAUD(`b`): refused by ORDER while unread bytes remain (rule R259). -/
def tSetBaud (b : BitVec 3) (s : State) : Except ErrKind State :=
  if s.rxFifo ≠ [] then .error .order else .ok { s with baudSel := b }

/-! ### Codec (spec/40_framecodec.md) -/

/-- ENCODE(): `TXF` and `CK` from `OPC` and `P` (rule R143). -/
def encodeCmd (s : State) : State := { s with txf := frameOf s.opc s.p, ck := (frameOf s.opc s.p)[11] }

/-- DECODE(`v`, `n`): its result, and the state with `CK` as it leaves it (rule R145). -/
def decodeFrame (v : List Byte) (n : Nat) (s : State) : Except ErrKind Reply × State :=
  (replyCheck (rxck s) v n, { s with ck := replyCk (rxck s) v n s.ck })

/-- The envelope of a received reply as `RB` holds it: positions 0 to 10 and the last two (rule R31). -/
def envelope (v : List Byte) : Frame :=
  #v[v.getD 0 0, v.getD 1 0, v.getD 2 0, v.getD 3 0, v.getD 4 0, v.getD 5 0, v.getD 6 0, v.getD 7 0, v.getD 8 0,
    v.getD 9 0, v.getD 10 0, v.getD (v.length - 2) 0, v.getD (v.length - 1) 0]

/-! ### The abort sequence, the block's trap entry (rule R310) -/

/-- The session is over: disconnected, idle, no valid capture (rule R310). -/
def disconnect (s : State) : State := { s with capValid := false, sstate := .disconnected, mstep := .idle }

/-- `reject K`: `err <- K` and nothing else (rule R306). -/
def reject (k : ErrKind) (s : State) : State := { s with err := k }

/-- ABORT(`K`) (rule R310): the kind is recorded, the link closed, the session disconnected and idle; everything else
keeps its value (rule R311). There is no return from it (rule R314). -/
def abort (k : ErrKind) (s : State) : State := disconnect (tClose (reject k s))

/-! ### Issue (rule R170) -/

/-- ISSUE of an operation whose code is not reserved: ignored while busy; else legality, operand range, acceptance with
the operation's own effects (rule R170). -/
def issue (o : Op) (inRange : Bool) (effect : State → State) (s : State) : State :=
  if busy s then s
  else if !legal o s.sstate s.capValid then reject .state s
  else if !inRange then reject .param s
  else effect { s with err := .ok, op := o }

/-- Latch a command at issue: opcode and parameters (rule R28, rule R29, rule R88). -/
def latch (k : WireCmd) (p : Params) (s : State) : State := { s with opc := s.cfg.opcode k, p := p }

/-! ### The session's micro-steps (spec/41_session.md) -/

/-- T_WRITE of the frame ENCODE has just built (rule R172, rule R254). -/
def writeTxf (s : State) : State := tWrite s.txf s

/-- A read of `n` bytes is outstanding (rule R23, rule R26). -/
def awaitReply (n : BitVec 12) (s : State) : State := { s with rxNeed := n, mstep := .rx }

/-- CMD_TX (rule R172). -/
def cmdTx (s : State) : State := awaitReply 13 (writeTxf (encodeCmd s))

/-- Transmit the frame of a wire command: CMD_TX with that command in the command registers, in the state in which the
sequencer sends it; a micro-step that is not enabled changes nothing (rule R172; log entry 5). The frame sent is that of
the operands, also where `OPC` and `P` hold another: the model's choice, met by no run (log entry 23). -/
def sendCommand (k : WireCmd) (p : Params) (s : State) : State :=
  if s.mstep = .tx ∧ s.sstate ≠ .uploading ∧ wireOf s.op = some k then cmdTx (latch k p s) else s

/-- The commit of CAPTURE (rule R203). -/
def commitCapture (total : BitVec 24) (count : BitVec 16) (s : State) : State :=
  { s with totalBytes := total, packetCount := count, capValid := true, sstate := .ready, mstep := .idle }

/-- The commit of the other operations: CONFIGURE (rule R184), RESET (rule R211), GETVERSION (rule R191), AUTOFOCUS
(rule R196). Where `op` names no command no rule gives a commit (log entry 15). -/
def commit (s : State) : Result :=
  match s.op with
  | .configure => .next { s with pktSel := s.npkt, mstep := .switch }
  | .reset => .next { s with pktSel := s.npkt, mstep := .switch }
  | .getversion => .next { s with mstep := .idle }
  | .autofocus => .next { s with sstate := .ready, mstep := .idle }
  | .capture => .fault .noCommitRule
  | .none => .fault .noCommitRule
  | .openOp => .fault .noCommitRule
  | .closeOp => .fault .noCommitRule
  | .upload => .fault .noCommitRule

/-- CMD_RX after the bytes `v` have been read: `RB`, DECODE, the status test (for CAPTURE inside DECODE_CAPTURE), the
commit; the first kind raised aborts in the same step (rule R173, rule R202). -/
def cmdRx (v : List Byte) (s : State) : Result :=
  match decodeFrame v 13 { s with rb := envelope v } with
  | (.error k, s2) => .next (abort k s2)
  | (.ok r, s2) =>
    if s2.op = .capture then
      match decodeCapture v with
      | .error k => .next (abort k s2)
      | .ok (total, count) => .next (commitCapture total count s2)
    else
      match statusCheck r.status with
      | .error k => .next (abort k s2)
      | .ok _ => commit s2

/-- The SWITCH step of CONFIGURE and RESET (rule R185, rule R212). -/
def switchStep (s : State) : State :=
  match tSetBaud s.nbaud s with
  | .error k => abort k s
  | .ok s1 => { s1 with sstate := .ready, mstep := .idle }

/-! ### The packet sequencer (spec/42_chunked_transfer.md) -/

/-- The issue effects of UPLOAD with at least one packet (rule R221), and with none (rule R222). The image is emptied
with `buf_len` (rule R81). -/
def uploadIssue (s : State) : State :=
  if s.packetCount = 0 then
    { s with bufLen := 0, img := [], skipCount := 0, pktErr := .ok, idx := 0, err := completionErr 0 s.totalBytes }
  else
    { s with bufLen := 0, img := [], skipCount := 0, pktErr := .ok, idx := 1, sstate := .uploading, mstep := .tx }

/-- UP_TX for packet `i` of `n` (rule R224). -/
def upTx (i n : BitVec 16) (s : State) : State :=
  awaitReply (BitVec.ofNat 12 (13 + expectedLength s i))
    (writeTxf (encodeCmd (latch .upload (paramsUpload i n) s)))

/-- APPEND(`d`) (rule R230). -/
def append (d : List Byte) (s : State) : State :=
  { s with img := s.img.write s.bufLen.toNat d, bufLen := s.bufLen + BitVec.ofNat 27 d.length }

/-- SKIP(`K`) (rule R232). -/
def skip (k : ErrKind) (s : State) : State := { s with skipCount := s.skipCount + 1, pktErr := k }

/-- NEXT (rule R231). -/
def advance (s : State) : State :=
  if s.idx = s.packetCount then
    { s with err := completionErr s.bufLen s.totalBytes, sstate := .ready, mstep := .idle }
  else { s with idx := s.idx + 1, mstep := .tx }

/-- UP_RX after the bytes `v` have been read, `n = rx_need` of them (rule R226, rule R227). -/
def upRx (v : List Byte) (s : State) : State :=
  match decodeFrame v s.rxNeed.toNat { s with rb := envelope v } with
  | (.error k, s2) => advance (skip k s2)
  | (.ok r, s2) =>
    match statusCheck r.status with
    | .error k => advance (skip k s2)
    | .ok _ => advance (append ((v.drop 11).take (s.rxNeed.toNat - 13)) s2)

/-! ### A read that completes, a read that times out -/

/-- The RX micro-step on the window a read delivered: UP_RX in UPLOADING, CMD_RX elsewhere (rules R173, R226). -/
def rxWindow (v : List Byte) (s : State) : Result :=
  if s.sstate = .uploading then .next (upRx v s) else cmdRx v s

/-- A received frame as the window of the outstanding read; while no read of that length is outstanding there is no
such step and nothing changes (rule R145: in the block `|v| = n` always holds; log entry 5). -/
def receive (v : List Byte) (s : State) : Result :=
  if s.mstep = .rx ∧ v.length = readLen s then rxWindow v s else .next s

/-- CMD_TIMEOUT (rule R174) and UP_TIMEOUT (rule R229). -/
def rxTimeout (s : State) : State :=
  if s.sstate = .uploading then advance (skip .timeout (tReadTimeout s)) else abort .timeout (tReadTimeout s)

/-! ### The other steps of HOST and DEV -/

/-- HOST writes `ctrl`: bit 0 only, ignored while busy (rule R38). -/
def writeCtrl (x : BitVec 32) (s : State) : State := if busy s then s else { s with ctrl := x.extractLsb' 0 1 }

/-- HOST reads a register: no side effect on the block (rule R21, rule R82). -/
def hostReadReg (r : Nat) (s : State) : Result :=
  match regRead s r with
  | some x => .next { s with hostReg := x }
  | none => .refused (.noSuchRegister r)

/-- HOST reads `n` image bytes from `a`: defined bytes as stored, every other byte a fresh free draw (rule R45). -/
def hostReadImg (a n : Nat) (s : State) : State :=
  { s with
    hostMem := (List.range n).map (fun j => (imgByte s (a + j)).getD (Config.freeImgByte (s.draws + j)))
    draws := s.draws + n }

/-- The DEV step: a byte joins `rx_fifo` while the link is open and leaves no trace otherwise (rules R262, R263). -/
def devSend (x : Byte) (s : State) : State := if s.linkOpen then { s with rxFifo := s.rxFifo ++ [x] } else s

/-- The hardware reset (rules R340 to R343): every register, queue and history at its reset value; `Cfg` and what HOST
and the schedule hold are kept. -/
def hardwareReset (s : State) : State :=
  { State.resetWith s.cfg with agenda := s.agenda, hostReg := s.hostReg, hostMem := s.hostMem, draws := s.draws }

end Sys2Proof.Machine
end

