-- ==== Sys2Proof/Machine/Receive.lean ====
section
/-! DEFINITION. The received frames of spec/30_encoding.md and the secondary family of spec/44_secondary_variant.md:
each is the CTRL micro-step that takes that frame as the window of the outstanding read. -/

namespace Sys2Proof.Machine

/-- RSP13: the RX step on a 13-byte reply (rule R145, rule R173). -/
def execRsp13 (status : Byte) (body : Params) (ck : Byte) (s : State) : Result :=
  receive (rsp13Bytes status body ck) s

/-- RSPUP: the RX step on an upload reply (rule R226). -/
def execRspup (status : Byte) (env : Params) (payload : List Byte) (ck : Byte) (s : State) : Result :=
  receive (rspupBytes status env payload ck) s

/-- SEC.FRAME: as the window of an outstanding read it is judged like any window and fails the header check (rule R120);
otherwise the secondary protocol is refused by name (rule R280; log entry 6). -/
def execSecFrame (opcode len : Byte) (params : List Byte) (s : State) : Result :=
  if s.mstep = .rx ∧ (secFrameBytes opcode len params).length = readLen s then
    rxWindow (secFrameBytes opcode len params) s
  else .refused .secondaryVariantNotImplemented

end Sys2Proof.Machine
end

