-- ==== Sys2Proof/Machine/Session.lean ====
section
/-! DEFINITION. The host operations of spec/41_session.md and the reserved host codes: what their issue step does. -/

namespace Sys2Proof.Machine

/-- OPEN (rule R175). -/
def execOpen (baud : BitVec 3) (ticks : BitVec 32) (s : State) : Result :=
  .next (issue .openOp true
    (fun s => { tOpen baud ticks s with capValid := false, sstate := .configuring }) s)

/-- CLOSE (rule R178). -/
def execClose (s : State) : Result :=
  .next (issue .closeOp true (fun s => { tClose s with capValid := false, sstate := .disconnected }) s)

/-- CONFIGURE, issue (rule R181). -/
def execConfigure (baud : BitVec 3) (pkt : BitVec 2) (s : State) : Result :=
  .next (issue .configure true
    (fun s => { latch .config (paramsConfig s.cfg baud pkt) s with nbaud := baud, npkt := pkt, mstep := .tx }) s)

/-- GETVERSION, issue (rule R189). -/
def execGetversion (s : State) : Result :=
  .next (issue .getversion true (fun s => { latch .getversion paramsNone s with mstep := .tx }) s)

/-- AUTOFOCUS, issue (rule R194). -/
def execAutofocus (mode : BitVec 2) (value : BitVec 16) (s : State) : Result :=
  .next (issue .autofocus (focusInRange mode value)
    (fun s => { latch .autofocus (paramsFocus (s.cfg.focus mode) (focusValue mode value)) s with
      sstate := .focusing, mstep := .tx }) s)

/-- CAPTURE, issue; the image is emptied with `buf_len` (rule R200, rule R81). -/
def execCapture (resolution colour format exposure : Byte) (s : State) : Result :=
  .next (issue .capture true
    (fun s => { latch .capture (paramsCapture resolution colour format exposure) s with
      capValid := false, bufLen := 0, img := [], sstate := .capturing, mstep := .tx }) s)

/-- RESET, issue: CONFIGURE with the operands 4 and `Cfg.DEF_PKT`, from READY (rule R209). -/
def execReset (s : State) : Result :=
  .next (issue .reset true
    (fun s => { latch .config (paramsConfig s.cfg 4 s.cfg.defPkt) s with
      nbaud := 4, npkt := s.cfg.defPkt, sstate := .resetting, mstep := .tx }) s)

/-- A reserved host code: ignored while busy, else rejected with PARAM (rule R117, rule R170). -/
def execReserved (_code : BitVec 4) (s : State) : Result := .next (if busy s then s else reject .param s)

end Sys2Proof.Machine
end

