-- ==== Sys2Proof/Machine/Upload.lean ====
section
/-! DEFINITION. The host operation UPLOAD of spec/42_chunked_transfer.md. -/

namespace Sys2Proof.Machine

/-- UPLOAD, issue (rules R220 to R222). -/
def execUpload (s : State) : Result := .next (issue .upload true uploadIssue s)

end Sys2Proof.Machine
end

