-- ==== Sys2Proof/Machine/Wire.lean ====
section
/-! DEFINITION. The wire commands of spec/30_encoding.md: each is the CTRL micro-step that transmits its frame. -/

namespace Sys2Proof.Machine

/-- W.CONFIG: the TX step of CONFIGURE and RESET (rule R182, rule R210). -/
def execWConfig (baud : BitVec 3) (pkt : BitVec 2) (s : State) : Result :=
  .next (sendCommand .config (paramsConfig s.cfg baud pkt) s)

/-- W.GETVERSION: the TX step of GETVERSION (rule R190). -/
def execWGetversion (s : State) : Result := .next (sendCommand .getversion paramsNone s)

/-- W.AUTOFOCUS: the TX step of AUTOFOCUS (rule R195). -/
def execWAutofocus (code : Byte) (value : BitVec 16) (s : State) : Result :=
  .next (sendCommand .autofocus (paramsFocus code value) s)

/-- W.CAPTURE: the TX step of CAPTURE (rule R201). -/
def execWCapture (resolution colour format exposure : Byte) (s : State) : Result :=
  .next (sendCommand .capture (paramsCapture resolution colour format exposure) s)

/-- W.UPLOAD: the request step UP_TX, enabled in UPLOADING with `step = TX` (rule R224; log entry 5). The operands are
sent and the index operand sizes the read. In a run they are `idx` and `packet_count`; the spec has no request with
others, and that such operands are sent all the same is the model's choice (log entry 23). -/
def execWUpload (index count : BitVec 16) (s : State) : Result :=
  .next (if s.mstep = .tx ∧ s.sstate = .uploading then upTx index count s else s)

end Sys2Proof.Machine
end

