-- ==== Sys2Proof/Machine/Dispatch.lean ====
section
/-! DEFINITION. One arm per row of spec/opcode_table.json. -/

namespace Sys2Proof.Machine

def exec (i : Instr) (s : State) : Host.Outcome State Fault Refusal :=
  match i with
  | .openOp b t => Sys2Proof.Machine.execOpen b t s
  | .closeOp => Sys2Proof.Machine.execClose s
  | .configure b z => Sys2Proof.Machine.execConfigure b z s
  | .getversion => Sys2Proof.Machine.execGetversion s
  | .autofocus m v => Sys2Proof.Machine.execAutofocus m v s
  | .capture r c f e => Sys2Proof.Machine.execCapture r c f e s
  | .upload => Sys2Proof.Machine.execUpload s
  | .reset => Sys2Proof.Machine.execReset s
  | .hcwReserved code => Sys2Proof.Machine.execReserved code s
  | .wConfig b z => Sys2Proof.Machine.execWConfig b z s
  | .wGetversion => Sys2Proof.Machine.execWGetversion s
  | .wAutofocus code v => Sys2Proof.Machine.execWAutofocus code v s
  | .wCapture r c f e => Sys2Proof.Machine.execWCapture r c f e s
  | .wUpload k n => Sys2Proof.Machine.execWUpload k n s
  | .rsp13 st body ck => Sys2Proof.Machine.execRsp13 st body ck s
  | .rspup st env payload ck => Sys2Proof.Machine.execRspup st env payload ck s
  | .secFrame o len params => Sys2Proof.Machine.execSecFrame o len params s

end Sys2Proof.Machine
end

