-- ==== Sys2Proof/Machine/Sequencer.lean ====
section
/-! DEFINITION. What runs next: the instruction CTRL fetches from the command registers or from the receive queue, the
moves of the three agents, one step of the machine, and the placing of a table word where the step fetches. -/

namespace Sys2Proof.Machine

/-- The wire command the command registers hold for the operation in progress (rule R172: the frame is built from `OPC`
and `P`). -/
def fetchCommand (s : State) : Except DecodeError Instr :=
  match wireOf s.op with
  | some k => decode s.cfg (.command k (frameOf s.opc s.p).toList)
  | none => .error .badOpcode

/-- CTRL at `step = TX`: UP_TX in UPLOADING (rule R224), else CMD_TX (rule R172), which sends whatever the command
registers hold. -/
def ctrlTx (s : State) : Result :=
  if s.sstate = .uploading then exec (.wUpload s.idx s.packetCount) s
  else
    match fetchCommand s with
    | .ok i => exec i s
    | .error _ => .next (cmdTx s)

/-- CTRL at `step = RX`: the read completes as soon as enough bytes are queued and times out otherwise (rules R173, R174,
R226, R229, R258); a window that is no reply is judged by DECODE all the same (rule R78). -/
def ctrlRx (s : State) : Result :=
  match tReadExact (readLen s) s with
  | some (v, s1) =>
    match decode s.cfg (.reply v) with
    | .ok i => exec i s1
    | .error _ => rxWindow v s1
  | none => .next (rxTimeout s)

/-- One CTRL step: the micro-step that is enabled; when idle there is none and nothing changes (rule R23, rule R319). -/
def ctrlMove (s : State) : Result :=
  match s.mstep with
  | .idle => .next s
  | .tx => ctrlTx s
  | .rx => ctrlRx s
  | .switch => .next (switchStep s)

/-- One move of the schedule (rule R11). -/
def runMove (m : Move) (s : State) : Result :=
  match m with
  | .host w => exec (decodeHcw w) s
  | .writeCtrl x => .next (writeCtrl x s)
  | .readReg r => hostReadReg r s
  | .readImg a n => .next (hostReadImg a n s)
  | .dev x => .next (devSend x s)
  | .ctrl => ctrlMove s
  | .hwReset => .next (hardwareReset s)

/-- One step: the next move of the schedule; with none left HOST and DEV are quiet and CTRL goes on (rule R356). -/
def runStep (s : State) : Result :=
  match s.agenda with
  | [] => ctrlMove s
  | m :: rest => runMove m { s with agenda := rest }

/-- The host command words of the pseudo-operation DRIVER_SEQUENCE (rule R122). HOST presents each one when the block is
idle and only after a result OK or INCOMPLETE: that choice is HOST's (rule R6). -/
def driverSequence (b0 : BitVec 3) (t : BitVec 32) (b : BitVec 3) (s m : BitVec 2) (v : BitVec 16) (r c f e : Byte) :
    List HostWord :=
  [hcwOf 1 b0 t, hcwOf 3 b (0#30 ++ s), hcwOf 4 0 0, hcwOf 5 (0#1 ++ m) (0#16 ++ v), hcwOf 6 0 (r ++ c ++ f ++ e),
    hcwOf 7 0 0, hcwOf 8 0 0, hcwOf 2 0 0]

/-- Put the bytes of a received frame where the next step reads them: CTRL's move, the window at the head of `rx_fifo`,
and, unless a read of that length is outstanding already, an operation that awaits it. -/
def placeWindow (v : List Byte) (s : State) : State :=
  let s1 := { s with agenda := .ctrl :: s.agenda, rxFifo := v ++ s.rxFifo }
  if s.mstep = .rx ∧ v.length = readLen s then s1
  else if v.length = 13 then
    { s1 with linkOpen := true, sstate := .ready, op := .getversion, rxNeed := 13, mstep := .rx }
  else
    { s1 with linkOpen := true, sstate := .uploading, op := .upload, rxNeed := BitVec.ofNat 12 v.length, mstep := .rx }

/-- Put a row's word where the next step fetches (log entries 11, 12). -/
def placeWord (s : State) (nbits w : Nat) : State :=
  if nbits = 40 then { s with agenda := .host (BitVec.ofNat 40 w) :: s.agenda }
  else placeWindow (tableBytes nbits w) s

end Sys2Proof.Machine
end

