-- ==== Sys2Proof/Machine/Step.lean ====
section
/-! DEFINITION. One step of the machine, and the placing of a word for it. Both only call Machine/Sequencer.lean. -/

namespace Sys2Proof.Machine

/-- One step: the next move of the schedule (rule R17). -/
def step : State → Host.Outcome State Fault Refusal := fun s => runStep s

/-- `s` with an instruction of the opcode table where `step` fetches its next one (log entry 12). -/
def State.withFetchWord (s : State) (nbits w : Nat) : State := placeWord s nbits w

end Sys2Proof.Machine
end

