-- ==== Sys2Proof/Safety.lean ====
section
/-! DEFINITION. What counts as a safe state and a safe run: the invariants of rule R50, the stronger invariant every step
keeps, the transition table of rule R215, and the schedules the claims speak of. -/

namespace Sys2Proof.Machine

/-- The session state an operation in progress occupies (rule R22, rule R171). -/
def opState : Op → SState
  | .none => .disconnected
  | .openOp => .configuring
  | .closeOp => .disconnected
  | .configure => .configuring
  | .getversion => .ready
  | .autofocus => .focusing
  | .capture => .capturing
  | .upload => .uploading
  | .reset => .resetting

/-- The seven state invariants of rule R50, word for word. -/
structure State.Consistent (s : State) : Prop where
  /-- R50 (a). -/
  linkOpen_iff : s.linkOpen = true ↔ s.sstate ≠ .disconnected
  /-- R50 (b). -/
  disconnected_quiet : s.sstate = .disconnected → s.mstep = .idle ∧ s.rxFifo = []
  /-- R50 (c). -/
  switch_state : s.mstep = .switch → s.sstate = .configuring ∨ s.sstate = .resetting
  /-- R50 (d). -/
  busy_states : s.sstate = .focusing ∨ s.sstate = .capturing ∨ s.sstate = .uploading ∨ s.sstate = .resetting →
    s.mstep ≠ .idle
  /-- R50 (e). -/
  upload_index : s.sstate = .uploading →
    s.capValid = true ∧ 1 ≤ s.packetCount.toNat ∧ 1 ≤ s.idx.toNat ∧ s.idx.toNat ≤ s.packetCount.toNat
  /-- R50 (f). -/
  bufLen_bound : s.bufLen.toNat ≤ s.idx.toNat * 2048
  /-- R50 (g). -/
  skip_bound : s.skipCount.toNat ≤ s.idx.toNat

/-- The invariant every step keeps: rule R50 and what its seven clauses rest on. -/
structure State.Inv (s : State) : Prop extends State.Consistent s where
  /-- While busy, `op` is a command, its session state is the current one, and no kind is recorded yet (rule R25,
  rule R34). -/
  busy_op : s.mstep ≠ .idle →
    s.op ≠ .none ∧ s.op ≠ .openOp ∧ s.op ≠ .closeOp ∧ s.sstate = opState s.op ∧ s.err = .ok
  /-- Before the TX step of a command, `OPC` holds its opcode (rule R28, rule R113). -/
  tx_opcode : s.mstep = .tx → ∀ k, wireOf s.op = some k → s.opc = s.cfg.opcode k
  /-- The outstanding read asks for 13 bytes, or for a whole upload reply (rule R26). -/
  rx_need : s.mstep = .rx → s.rxNeed.toNat = if s.sstate = .uploading then 13 + expectedLength s s.idx else 13
  /-- While packet `idx` is in hand, only earlier packets have added bytes (rule R228). -/
  upload_bufLen : s.sstate = .uploading → s.bufLen.toNat ≤ (s.idx.toNat - 1) * 2048
  /-- While packet `idx` is in hand, only earlier packets have been skipped (rule R228). -/
  upload_skip : s.sstate = .uploading → s.skipCount.toNat ≤ s.idx.toNat - 1
  /-- The image lists exactly the addresses below `buf_len` (rule R44, rule R45). -/
  img_addresses : s.img.map Prod.fst = List.range s.bufLen.toNat

/-- The move the next step makes: the head of the schedule, or CTRL's when nothing is scheduled. -/
def nextMove (s : State) : Move := s.agenda.head?.getD .ctrl

/-- The transition table of rule R215, one constructor per row, with the move that makes it; a step that leaves
`sstate` alone, and the hardware reset of rule R340, which the table does not list. -/
inductive Transition (s t : State) : Move → Prop
  | stays (m : Move) : t.sstate = s.sstate → Transition s t m
  | opened (w : HostWord) (b : BitVec 3) (n : BitVec 32) : decodeHcw w = .openOp b n → s.mstep = .idle →
      s.sstate = .disconnected → t.sstate = .configuring → Transition s t (.host w)
  | configured : s.mstep = .switch → s.op = .configure → s.sstate = .configuring → t.sstate = .ready →
      Transition s t .ctrl
  | focusing (w : HostWord) (m : BitVec 2) (v : BitVec 16) : decodeHcw w = .autofocus m v → s.mstep = .idle →
      s.sstate = .ready → t.sstate = .focusing → Transition s t (.host w)
  | focused : s.mstep = .rx → s.op = .autofocus → s.sstate = .focusing → t.sstate = .ready → Transition s t .ctrl
  | capturing (w : HostWord) (r c f e : Byte) : decodeHcw w = .capture r c f e → s.mstep = .idle →
      s.sstate = .ready → t.sstate = .capturing → Transition s t (.host w)
  | captured : s.mstep = .rx → s.op = .capture → s.sstate = .capturing → t.sstate = .ready → Transition s t .ctrl
  | uploading (w : HostWord) : decodeHcw w = .upload → s.mstep = .idle → s.sstate = .ready →
      1 ≤ s.packetCount.toNat → t.sstate = .uploading → Transition s t (.host w)
  | uploaded : s.mstep = .rx → s.sstate = .uploading → s.idx = s.packetCount → t.sstate = .ready →
      Transition s t .ctrl
  | resetting (w : HostWord) : decodeHcw w = .reset → s.mstep = .idle → s.sstate = .ready →
      t.sstate = .resetting → Transition s t (.host w)
  | wasReset : s.mstep = .switch → s.op = .reset → s.sstate = .resetting → t.sstate = .ready → Transition s t .ctrl
  | closed (w : HostWord) : decodeHcw w = .closeOp → s.mstep = .idle → s.sstate ≠ .disconnected →
      t.sstate = .disconnected → Transition s t (.host w)
  | aborted : s.mstep ≠ .idle → s.sstate ≠ .uploading → s.sstate ≠ .disconnected → t.err ≠ .ok →
      t.sstate = .disconnected → Transition s t .ctrl
  | hardwareReset : t.sstate = .disconnected → Transition s t .hwReset

/-- How many CTRL steps the operation in progress can still take: 3 for a command, two for each packet left of an
upload (rule R356). -/
def ctrlBound (s : State) : Nat :=
  if s.sstate = .uploading then 2 * (s.packetCount.toNat + 1 - s.idx.toNat) else 3

/-- A move of DEV or CTRL: what happens while HOST waits (rule R17). -/
def Move.isDevOrCtrl : Move → Bool
  | .dev _ => true
  | .ctrl => true
  | .host _ => false
  | .writeCtrl _ => false
  | .readReg _ => false
  | .readImg _ _ => false
  | .hwReset => false

/-- The bits of a host command word its operation reads (rule R104); all others are ignored. -/
def usedBits (w : HostWord) : HostWord :=
  match (w.extractLsb' 36 4).toNat with
  | 1 => w &&& 0xF7FFFFFFFF#40
  | 3 => w &&& 0xF700000003#40
  | 5 => w &&& 0xF30000FFFF#40
  | 6 => w &&& 0xF0FFFFFFFF#40
  | _ => w &&& 0xF000000000#40

/-- The schedule in which DEV sends some bytes and nothing else happens between them. -/
def devBytes (l : List Byte) : List Move := l.map Move.dev

/-- A good upload reply carrying a payload, its checksum summed as DECODE sums it (rule R103, rule R148). -/
def upReply (d : List Byte) : List Byte :=
  rspupBytes 0 paramsNone d (sumBytes (frameHeader.drop 1 ++ (0 :: paramsNone.toList) ++ d))

/-- A good 13-byte reply with a zero payload: the reply `OKREPLY` of the test vectors (rule R102). -/
def okReply : List Byte := rsp13Bytes 0 paramsNone 0x08

/-- What DEV does with one packet request: answer with a payload, or stay silent so that the read times out. -/
def packetMoves : Option (List Byte) → List Move
  | some d => [.ctrl] ++ devBytes (upReply d) ++ [.ctrl]
  | none => [.ctrl, .ctrl]

/-- The accepted payloads one after the other (rule R73). -/
def assembled (packets : List (Option (List Byte))) : List Byte := (packets.map (fun o => o.getD [])).flatten

end Sys2Proof.Machine
end

