-- ==== Sys2Proof/Certificates/Slice0/Obligations.lean ====
section
/-! DEFINITION. The statements for the provers, from the numbered rules of spec/: each docstring names the rule. -/

open Sys2Proof Sys2Proof.Machine

/-! ### Encoding -/

/-- Decoding the words of any well-formed instruction gives it back, under every configuration whose code tables are
injective (rules R101 to R111, R261; log entry 11). -/
def Obligations.DecodeOfEncodeIsIdentity : Prop :=
  ∀ c : Cfg, c.wf → ∀ i : Instr, WellFormed i = true → decode c (encode c i) = .ok i

/-- A frame that decodes is the encoding of what it decodes to: no two frames of one port share a meaning. -/
def Obligations.EncodeOfDecodedFrameIsFrame : Prop :=
  ∀ (c : Cfg) (i : Instr),
    (∀ k f, decode c (.command k f) = .ok i → encode c i = .command k f) ∧
    (∀ f, decode c (.reply f) = .ok i → encode c i = .reply f)

/-- The bits of a host command word that rule R104 calls ignored change nothing. -/
def Obligations.HostWordIgnoresUnusedBits : Prop :=
  ∀ (w u : HostWord) (s : State), usedBits w = usedBits u →
    decodeHcw w = decodeHcw u ∧ exec (decodeHcw w) s = exec (decodeHcw u) s

/-- The code in bits 39 to 36 of a host command word selects the operation, and the operands lie where the table of
rule R104 puts them; every other code is reserved (rules R104, R114, R117). -/
def Obligations.HostWordSelectsOperation : Prop :=
  ∀ (w : HostWord) (n : Nat), n = (w.extractLsb' 36 4).toNat →
    (n = 1 → decodeHcw w = .openOp (w.extractLsb' 32 3) (w.extractLsb' 0 32)) ∧
    (n = 2 → decodeHcw w = .closeOp) ∧
    (n = 3 → decodeHcw w = .configure (w.extractLsb' 32 3) (w.extractLsb' 0 2)) ∧
    (n = 4 → decodeHcw w = .getversion) ∧
    (n = 5 → decodeHcw w = .autofocus (w.extractLsb' 32 2) (w.extractLsb' 0 16)) ∧
    (n = 6 → decodeHcw w =
      .capture (w.extractLsb' 24 8) (w.extractLsb' 16 8) (w.extractLsb' 8 8) (w.extractLsb' 0 8)) ∧
    (n = 7 → decodeHcw w = .upload) ∧
    (n = 8 → decodeHcw w = .reset) ∧
    (n = 0 ∨ 9 ≤ n → decodeHcw w = .hcwReserved (w.extractLsb' 36 4))

/-- Six words of the opcode table and of the test vectors under `decodeTableWord`: five host command words, and one
104-bit word, which is read as a received window and so is RSP13. That a 104-bit word is read as a reply and not as a
wire command is the model's reading (log entry 11). -/
def Obligations.TableWordsDecode : Prop :=
  decodeTableWord 40 0x14000003E8 = some (.openOp 4 1000) ∧
  decodeTableWord 40 0x3700000002 = some (.configure 7 2) ∧
  decodeTableWord 40 0x52000002EE = some (.autofocus 2 750) ∧
  decodeTableWord 40 0x6005010200 = some (.capture 5 1 2 0) ∧
  decodeTableWord 40 0x9000000000 = some (.hcwReserved 9) ∧
  decodeTableWord 104 0x7E00080000000BB8000300CEE7 = some (.rsp13 0 #v[0x00, 0x0B, 0xB8, 0x00, 0x03, 0x00] 0xCE)

/-- ENCODE: what it writes, and nothing else (rule R143). -/
def Obligations.EncodeBuildsCommandFrame : Prop :=
  ∀ s : State,
    encodeCmd s =
      { s with
        txf := #v[0x7E, 0x00, 0x08, 0x00, s.opc, s.p[0], s.p[1], s.p[2], s.p[3], s.p[4], s.p[5],
          0x00 + 0x08 + 0x00 + s.opc + s.p[0] + s.p[1] + s.p[2] + s.p[3] + s.p[4] + s.p[5], 0xE7]
        ck := 0x00 + 0x08 + 0x00 + s.opc + s.p[0] + s.p[1] + s.p[2] + s.p[3] + s.p[4] + s.p[5] }

/-- The properties of ENCODE's result: length, header, tail, checksum, and injectivity in opcode and parameters
(rule R144). -/
def Obligations.EncodeResultProperties : Prop :=
  ∀ s t : State,
    (encodeCmd s).txf.toList.length = 13 ∧
    (encodeCmd s).txf.toList.take 4 = [0x7E, 0x00, 0x08, 0x00] ∧
    (encodeCmd s).txf[12] = 0xE7 ∧
    (encodeCmd s).txf[11] = cksum (encodeCmd s).txf.toList 1 10 ∧
    ((encodeCmd s).txf.toList.drop 4).take 7 = s.opc :: s.p.toList ∧
    ((encodeCmd s).txf = (encodeCmd t).txf → s.opc = t.opc ∧ s.p = t.p)

/-- The arithmetic law of the checksum: 8-bit wrap-around, no order, one summed byte changed by `d` changes it by `d`,
two changes that cancel leave it (rule R142). -/
def Obligations.ChecksumArithmetic : Prop :=
  (∀ (f g : List Byte) (a b : Nat), List.Perm ((f.drop a).take (b + 1 - a)) ((g.drop a).take (b + 1 - a)) →
    cksum f a b = cksum g a b) ∧
  (∀ (f : List Byte) (a b i : Nat) (d : Byte) (h : i < f.length), a ≤ i → i ≤ b →
    cksum (f.set i (f[i] + d)) a b = cksum f a b + d) ∧
  (∀ (f : List Byte) (a b i j : Nat) (d : Byte) (hi : i < f.length) (hj : j < f.length), i ≠ j →
    a ≤ i → i ≤ b → a ≤ j → j ≤ b →
    cksum ((f.set i (f[i] + d)).set j (f[j] - d)) a b = cksum f a b) ∧
  (∀ (f : List Byte) (i : Nat) (x : Byte), i = 0 ∨ 10 < i → cksum (f.set i x) 1 10 = cksum f 1 10)

/-- DECODE of what ENCODE built returns the opcode in the place of the status and the parameters as the body, with the
checksum validation on or off (rule R150). -/
def Obligations.DecodeOfEncodeRoundTrips : Prop :=
  ∀ (s : State) (o : Byte) (q : Params),
    (decodeFrame (frameOf o q).toList 13 s).1 = .ok { status := o, body := q.toList }

/-- DECODE: the four checks in their order, the result, and `CK` (rule R145). -/
def Obligations.DecodeChecksInOrder : Prop :=
  ∀ (v : List Byte) (n : Nat) (s : State), 13 ≤ n →
    decodeFrame v n s =
      if v.length ≠ n then (.error .malformed, s)
      else if v.take 4 ≠ [0x7E, 0x00, 0x08, 0x00] then (.error .malformed, s)
      else if v.getD (n - 1) 0 ≠ 0xE7 then (.error .malformed, s)
      else if s.ctrl = 1 then
        if v.getD (n - 2) 0 ≠ cksum v 1 (n - 3) then (.error .checksum, { s with ck := cksum v 1 (n - 3) })
        else (.ok { status := v.getD 4 0, body := (v.drop 5).take (n - 7) }, { s with ck := cksum v 1 (n - 3) })
      else (.ok { status := v.getD 4 0, body := (v.drop 5).take (n - 7) }, s)

/-- DECODE_CAPTURE: DeviceError on a nonzero status, else the two big-endian numbers, exactly (rule R152). -/
def Obligations.CaptureReplyIsParsedBigEndian : Prop :=
  ∀ st b0 b1 b2 b3 b4 b5 ck : Byte,
    (st ≠ 0 → decodeCapture (rsp13Bytes st #v[b0, b1, b2, b3, b4, b5] ck) = .error .device) ∧
    (st = 0 → ∃ total count, decodeCapture (rsp13Bytes st #v[b0, b1, b2, b3, b4, b5] ck) = .ok (total, count) ∧
      total.toNat = b0.toNat * 65536 + b1.toNat * 256 + b2.toNat ∧ count.toNat = b3.toNat * 256 + b4.toNat)

/-! ### Host operations -/

/-- OPEN is accepted exactly in DISCONNECTED and its effects are these and no others (rule R175). -/
def Obligations.OpenAccepted : Prop :=
  ∀ (b : BitVec 3) (t : BitVec 32) (s : State), s.mstep = .idle →
    (s.sstate = .disconnected → exec (.openOp b t) s = .next
      { s with
        err := .ok, op := .openOp, linkOpen := true, baudSel := b, timeout := t, rxFifo := [], capValid := false
        sstate := .configuring }) ∧
    (s.sstate ≠ .disconnected → exec (.openOp b t) s = .next { s with err := .state })

/-- CLOSE is accepted in every state when not busy; it keeps the rate, the capture result and the image (rule R178). -/
def Obligations.CloseAccepted : Prop :=
  ∀ s : State, s.mstep = .idle →
    exec .closeOp s = .next
      { s with
        err := .ok, op := .closeOp, linkOpen := false, rxFifo := [], capValid := false, sstate := .disconnected }

/-- CONFIGURE's issue latches the new indices and the CONFIG command (rule R181, rule R106). -/
def Obligations.ConfigureAccepted : Prop :=
  ∀ (b : BitVec 3) (z : BitVec 2) (s : State), s.mstep = .idle →
    (s.sstate = .configuring → exec (.configure b z) s = .next
      { s with
        err := .ok, op := .configure, nbaud := b, npkt := z, opc := s.cfg.opcConfig
        p := #v[s.cfg.baudCode[b.toNat]'b.isLt, s.cfg.pktCode[z.toNat]'z.isLt, 0, 0, 0, 0], mstep := .tx }) ∧
    (s.sstate ≠ .configuring → exec (.configure b z) s = .next { s with err := .state })

/-- GETVERSION's issue latches the all-empty command; the session state stays READY (rule R189, rule R107). -/
def Obligations.GetversionAccepted : Prop :=
  ∀ s : State, s.mstep = .idle →
    (s.sstate = .ready → exec .getversion s = .next
      { s with
        err := .ok, op := .getversion, opc := s.cfg.opcGetversion, p := #v[0, 0, 0, 0, 0, 0], mstep := .tx }) ∧
    (s.sstate ≠ .ready → exec .getversion s = .next { s with err := .state })

/-- AUTOFOCUS: accepted with its parameters, rejected with PARAM out of range, with STATE outside READY (rule R194,
rule R108). The value is sent in manual mode only, high byte first. -/
def Obligations.AutofocusAccepted : Prop :=
  ∀ (m : BitVec 2) (v : BitVec 16) (s : State), s.mstep = .idle →
    (s.sstate ≠ .ready → exec (.autofocus m v) s = .next { s with err := .state }) ∧
    (s.sstate = .ready → (m = 3 ∨ (m = 2 ∧ 750 < v.toNat)) →
      exec (.autofocus m v) s = .next { s with err := .param }) ∧
    (s.sstate = .ready → ∀ h : m.toNat < 3, (m = 2 → v.toNat ≤ 750) →
      exec (.autofocus m v) s = .next
        { s with
          err := .ok, op := .autofocus, opc := s.cfg.opcAutofocus
          p := #v[s.cfg.focusCode[m.toNat], if m = 2 then v.extractLsb' 8 8 else 0,
            if m = 2 then v.extractLsb' 0 8 else 0, 0, 0, 0]
          sstate := .focusing, mstep := .tx })

/-- CAPTURE's issue empties the image, invalidates the capture result and latches the four bytes (rule R200); no image
byte is defined any more (rule R81). -/
def Obligations.CaptureAccepted : Prop :=
  ∀ (r c f e : Byte) (s : State), s.mstep = .idle →
    (s.sstate = .ready → ∃ t : State, exec (.capture r c f e) s = .next t ∧ (∀ a, imgByte t a = none) ∧
      t = { s with
            err := .ok, op := .capture, capValid := false, bufLen := 0, img := t.img, opc := s.cfg.opcCapture
            p := #v[r, c, f, e, 0, 0], sstate := .capturing, mstep := .tx }) ∧
    (s.sstate ≠ .ready → exec (.capture r c f e) s = .next { s with err := .state })

/-- UPLOAD's issue: the first packet is asked for, or, with no packet, the operation is over; without a valid capture
it is rejected (rules R220 to R222). No image byte is defined any more (rule R81). -/
def Obligations.UploadAccepted : Prop :=
  ∀ s : State, s.mstep = .idle →
    (s.sstate = .ready → s.capValid = true → 1 ≤ s.packetCount.toNat → ∃ t : State,
      exec .upload s = .next t ∧ (∀ a, imgByte t a = none) ∧
      t = { s with
            err := .ok, op := .upload, bufLen := 0, img := t.img, skipCount := 0, pktErr := .ok, idx := 1
            sstate := .uploading, mstep := .tx }) ∧
    (s.sstate = .ready → s.capValid = true → s.packetCount = 0 → ∃ t : State,
      exec .upload s = .next t ∧ (∀ a, imgByte t a = none) ∧
      t = { s with
            err := if s.totalBytes = 0 then .ok else .incomplete
            op := .upload, bufLen := 0, img := t.img, skipCount := 0, pktErr := .ok, idx := 0 }) ∧
    (¬ (s.sstate = .ready ∧ s.capValid = true) → exec .upload s = .next { s with err := .state })

/-- RESET's issue is CONFIGURE's with index 4 (115200) and the default packet size, from READY (rule R209). -/
def Obligations.ResetAccepted : Prop :=
  ∀ s : State, s.mstep = .idle →
    (s.sstate = .ready → exec .reset s = .next
      { s with
        err := .ok, op := .reset, nbaud := 4, npkt := s.cfg.defPkt, opc := s.cfg.opcConfig
        p := #v[s.cfg.baudCode[4], s.cfg.pktCode[s.cfg.defPkt.toNat]'s.cfg.defPkt.isLt, 0, 0, 0, 0]
        sstate := .resetting, mstep := .tx }) ∧
    (s.sstate ≠ .ready → exec .reset s = .next { s with err := .state })

/-- A reserved host code is rejected with PARAM whatever the session state, and nothing else changes (rule R117). -/
def Obligations.ReservedCodeRejected : Prop :=
  ∀ (w : HostWord) (s : State), s.mstep = .idle →
    (w.extractLsb' 36 4 = 0 ∨ 9 ≤ (w.extractLsb' 36 4).toNat) →
      decodeHcw w = .hcwReserved (w.extractLsb' 36 4) ∧
      exec (.hcwReserved (w.extractLsb' 36 4)) s = .next { s with err := .param }

/-- A host command word presented while busy is dropped without trace, CLOSE and reserved codes included (rule R170,
case 1). -/
def Obligations.CommandWordIgnoredWhileBusy : Prop :=
  ∀ (w : HostWord) (s : State), s.mstep ≠ .idle → exec (decodeHcw w) s = .next s

/-! ### Wire commands -/

/-- W.CONFIG, W.GETVERSION, W.AUTOFOCUS and W.CAPTURE: the frame goes out whole at the current rate and the read of 13
bytes is outstanding (rule R172 with the slots of rules R106 to R109). That the row stands for the micro-step, and that
`OPC` and `P` take the operands whatever they held, is the model's reading (log entries 4, 23). -/
def Obligations.CommandFrameTransmitted : Prop :=
  ∀ s : State, s.mstep = .tx → s.sstate ≠ .uploading →
    ∀ (i : Instr) (k : WireCmd) (q : Params), wireOf s.op = some k →
      ((∃ b z, i = .wConfig b z ∧ k = .config ∧
          q = #v[s.cfg.baudCode[b.toNat]'b.isLt, s.cfg.pktCode[z.toNat]'z.isLt, 0, 0, 0, 0]) ∨
       (i = .wGetversion ∧ k = .getversion ∧ q = #v[0, 0, 0, 0, 0, 0]) ∨
       (∃ x v, i = .wAutofocus x v ∧ k = .autofocus ∧ q = #v[x, v.extractLsb' 8 8, v.extractLsb' 0 8, 0, 0, 0]) ∨
       (∃ r c f e, i = .wCapture r c f e ∧ k = .capture ∧ q = #v[r, c, f, e, 0, 0])) →
      exec i s = .next
        { s with
          opc := s.cfg.opcode k, p := q
          txf := frameOf (s.cfg.opcode k) q
          ck := (frameOf (s.cfg.opcode k) q)[11]
          txLog := s.txLog ++ (frameOf (s.cfg.opcode k) q).toList.map (fun x => (s.baudSel, x))
          rxNeed := 13, mstep := .rx }

/-- W.UPLOAD: the request for packet `k` of `n`, and a read of `13 + expectedLength(k)` bytes (rule R224, rule R225 where
`k` is `idx` and `n` is `packet_count`). That the row stands for the micro-step, and that other operands are sent too, is
the model's reading (log entries 4, 23). -/
def Obligations.UploadRequestTransmitted : Prop :=
  ∀ (s : State) (k n : BitVec 16), s.mstep = .tx → s.sstate = .uploading →
    exec (.wUpload k n) s = .next
      { s with
        opc := s.cfg.opcUpload
        p := #v[0x01, k.extractLsb' 8 8, k.extractLsb' 0 8, n.extractLsb' 8 8, n.extractLsb' 0 8, 0x00]
        txf := frameOf s.cfg.opcUpload (paramsUpload k n)
        ck := (frameOf s.cfg.opcUpload (paramsUpload k n))[11]
        txLog := s.txLog ++ (frameOf s.cfg.opcUpload (paramsUpload k n)).toList.map (fun x => (s.baudSel, x))
        rxNeed := BitVec.ofNat 12 (13 + expectedLength s k), mstep := .rx } ∧
    13 + expectedLength s k < 2 ^ 12

/-! ### Replies -/

/-- RSP13 with status 0 and, where it is checked, a right checksum: the commit of the operation in progress (rules R173,
R184, R191, R196, R203, R211). The fetch has taken the 13 bytes off `rx_fifo` before, so `rx_fifo` is kept here: the
model's reading of the row (log entry 4). -/
def Obligations.GoodReplyCommits : Prop :=
  ∀ (s : State) (b0 b1 b2 b3 b4 b5 x : Byte), s.mstep = .rx → s.sstate ≠ .uploading →
    (s.ctrl = 1 → x = 8 + b0 + b1 + b2 + b3 + b4 + b5) →
    ∀ r : State,
      r = { s with
            rb := #v[0x7E, 0x00, 0x08, 0x00, 0x00, b0, b1, b2, b3, b4, b5, x, 0xE7]
            ck := if s.ctrl = 1 then x else s.ck } →
      (s.op = .configure ∨ s.op = .reset →
        exec (.rsp13 0 #v[b0, b1, b2, b3, b4, b5] x) s = .next { r with pktSel := s.npkt, mstep := .switch }) ∧
      (s.op = .getversion →
        exec (.rsp13 0 #v[b0, b1, b2, b3, b4, b5] x) s = .next { r with mstep := .idle }) ∧
      (s.op = .autofocus →
        exec (.rsp13 0 #v[b0, b1, b2, b3, b4, b5] x) s = .next { r with sstate := .ready, mstep := .idle }) ∧
      (s.op = .capture →
        exec (.rsp13 0 #v[b0, b1, b2, b3, b4, b5] x) s = .next
          { r with
            totalBytes := be3 b0 b1 b2, packetCount := be2 b3 b4, capValid := true, sstate := .ready
            mstep := .idle })

/-- RSP13 that a check refuses: a wrong checksum where it is checked, else a nonzero status; the session is aborted with
that kind, the reply stays in `RB`, nothing is committed (rules R173, R310, R312). That the row stands for the micro-step
is the model's reading (log entry 4). -/
def Obligations.BadReplyAborts : Prop :=
  ∀ (s : State) (st b0 b1 b2 b3 b4 b5 x : Byte), s.mstep = .rx → s.sstate ≠ .uploading →
    ∀ sum : Byte, sum = 8 + st + b0 + b1 + b2 + b3 + b4 + b5 →
    (s.ctrl = 1 → x ≠ sum → exec (.rsp13 st #v[b0, b1, b2, b3, b4, b5] x) s = .next
      { s with
        rb := #v[0x7E, 0x00, 0x08, 0x00, st, b0, b1, b2, b3, b4, b5, x, 0xE7], ck := sum
        err := .checksum, linkOpen := false, rxFifo := [], capValid := false, sstate := .disconnected
        mstep := .idle }) ∧
    ((s.ctrl = 1 → x = sum) → st ≠ 0 → exec (.rsp13 st #v[b0, b1, b2, b3, b4, b5] x) s = .next
      { s with
        rb := #v[0x7E, 0x00, 0x08, 0x00, st, b0, b1, b2, b3, b4, b5, x, 0xE7]
        ck := if s.ctrl = 1 then sum else s.ck
        err := .device, linkOpen := false, rxFifo := [], capValid := false, sstate := .disconnected
        mstep := .idle })

/-- RSPUP accepted: the payload, and nothing else of the reply, is stored from address `buf_len` upward, every other
address reads as before, and the sequencer moves on (rules R226, R227, R230, R231). The fetch has taken the reply off
`rx_fifo` before, so `rx_fifo` is kept here: the model's reading of the row (log entry 4). -/
def Obligations.GoodPacketAppended : Prop :=
  ∀ (s : State) (env : Params) (d : List Byte) (x : Byte),
    s.mstep = .rx → s.sstate = .uploading → s.rxNeed.toNat = 13 + d.length →
    (s.ctrl = 1 → x = sumBytes ([0x00, 0x08, 0x00, 0x00] ++ env.toList ++ d)) →
    ∃ t : State, exec (.rspup 0 env d x) s = .next t ∧
      (∀ a, a < s.bufLen.toNat ∨ s.bufLen.toNat + d.length ≤ a → t.img.read a = s.img.read a) ∧
      (∀ (j : Nat) (h : j < d.length), t.img.read (s.bufLen.toNat + j) = some d[j]) ∧
      t = { s with
            rb := #v[0x7E, 0x00, 0x08, 0x00, 0x00, env[0], env[1], env[2], env[3], env[4], env[5], x, 0xE7]
            ck := if s.ctrl = 1 then x else s.ck
            img := t.img
            bufLen := s.bufLen + BitVec.ofNat 27 d.length
            err := if s.idx = s.packetCount then
                if (s.bufLen + BitVec.ofNat 27 d.length).toNat = s.totalBytes.toNat then .ok else .incomplete
              else s.err
            sstate := if s.idx = s.packetCount then .ready else .uploading
            mstep := if s.idx = s.packetCount then .idle else .tx
            idx := if s.idx = s.packetCount then s.idx else s.idx + 1 }

/-- RSPUP that a check refuses is skipped: the skip is counted with its kind, nothing is appended, the link stays open
and the sequencer moves on (rules R226, R231, R232). The fetch has taken the reply off `rx_fifo` before, so `rx_fifo` is
kept here: the model's reading of the row (log entry 4). -/
def Obligations.BadPacketSkipped : Prop :=
  ∀ (s : State) (st : Byte) (env : Params) (d : List Byte) (x sum : Byte),
    s.mstep = .rx → s.sstate = .uploading → s.rxNeed.toNat = 13 + d.length →
    sum = sumBytes ([0x00, 0x08, 0x00, st] ++ env.toList ++ d) →
    ∀ k : ErrKind,
      (s.ctrl = 1 ∧ x ≠ sum ∧ k = .checksum) ∨ ((s.ctrl = 1 → x = sum) ∧ st ≠ 0 ∧ k = .device) →
      exec (.rspup st env d x) s = .next
        { s with
          rb := #v[0x7E, 0x00, 0x08, 0x00, st, env[0], env[1], env[2], env[3], env[4], env[5], x, 0xE7]
          ck := if s.ctrl = 1 then sum else s.ck
          skipCount := s.skipCount + 1, pktErr := k
          err := if s.idx = s.packetCount then
              if s.bufLen.toNat = s.totalBytes.toNat then .ok else .incomplete
            else s.err
          sstate := if s.idx = s.packetCount then .ready else .uploading
          mstep := if s.idx = s.packetCount then .idle else .tx
          idx := if s.idx = s.packetCount then s.idx else s.idx + 1 }

/-- A good reply while `op` names no command the reply could commit stops the machine: no rule gives such a commit. The
fault is the model's choice (log entry 15); `StepNeverStops` says that no run meets it. -/
def Obligations.ReplyWithNoCommandStops : Prop :=
  ∀ (s : State) (b0 b1 b2 b3 b4 b5 x : Byte), s.mstep = .rx → s.sstate ≠ .uploading →
    s.op = .none ∨ s.op = .openOp ∨ s.op = .closeOp ∨ s.op = .upload →
    (s.ctrl = 1 → x = 8 + b0 + b1 + b2 + b3 + b4 + b5) →
    exec (.rsp13 0 #v[b0, b1, b2, b3, b4, b5] x) s = .fault .noCommitRule

/-- A wire command or a reply outside the micro-step that sends or takes it changes nothing: the block has no such step.
That it is a next state with nothing changed is the model's choice (log entry 5). -/
def Obligations.FrameOutsideItsStepChangesNothing : Prop :=
  ∀ s : State,
    (∀ k, ¬ (s.mstep = .tx ∧ s.sstate ≠ .uploading ∧ wireOf s.op = some k) →
      (k = .config → ∀ b z, exec (.wConfig b z) s = .next s) ∧
      (k = .getversion → exec .wGetversion s = .next s) ∧
      (k = .autofocus → ∀ x v, exec (.wAutofocus x v) s = .next s) ∧
      (k = .capture → ∀ r c f e, exec (.wCapture r c f e) s = .next s)) ∧
    (¬ (s.mstep = .tx ∧ s.sstate = .uploading) → ∀ k n, exec (.wUpload k n) s = .next s) ∧
    (¬ (s.mstep = .rx ∧ readLen s = 13) → ∀ st b x, exec (.rsp13 st b x) s = .next s) ∧
    (∀ st e d x, ¬ (s.mstep = .rx ∧ readLen s = 13 + d.length) → exec (.rspup st e d x) s = .next s)

/-- SEC.FRAME: as the window of an outstanding read it is MalformedFrame, fatal for a command and a skip in an upload, of
the last packet too (rules R120, R231, R301, R309); with no read of its length outstanding the secondary protocol is
refused by name (rule R280). Which of the two an arm meets is the model's reading (log entry 6). -/
def Obligations.SecondaryFrameIsMalformed : Prop :=
  ∀ (s : State) (o len : Byte) (q : List Byte),
    (s.mstep = .rx → s.sstate ≠ .uploading → q.length = 9 → exec (.secFrame o len q) s = .next
      { s with
        rb := envelope ([0x56, 0x00, o, len] ++ q)
        err := .malformed, linkOpen := false, rxFifo := [], capValid := false, sstate := .disconnected
        mstep := .idle }) ∧
    (s.mstep = .rx → s.sstate = .uploading → 4 + q.length = s.rxNeed.toNat →
      exec (.secFrame o len q) s = .next
        { s with
          rb := envelope ([0x56, 0x00, o, len] ++ q)
          skipCount := s.skipCount + 1, pktErr := .malformed
          err := if s.idx = s.packetCount then
              if s.bufLen.toNat = s.totalBytes.toNat then .ok else .incomplete
            else s.err
          sstate := if s.idx = s.packetCount then .ready else .uploading
          mstep := if s.idx = s.packetCount then .idle else .tx
          idx := if s.idx = s.packetCount then s.idx else s.idx + 1 }) ∧
    (¬ (s.mstep = .rx ∧ 4 + q.length = readLen s) →
      exec (.secFrame o len q) s = .refused .secondaryVariantNotImplemented)

/-! ### Steps -/

/-- A step runs the decoded instruction: the host command word at the head of the schedule; for CTRL, the frame the
command registers hold, the request of the packet in hand, or the window of the outstanding read, which the fetch has
removed from the queue. The schedule and the fetch are the model's choice (log entries 1, 4). -/
def Obligations.StepRunsDecodedInstruction : Prop :=
  (∀ (s : State) (w : HostWord) (rest : List Move) (i : Instr), s.agenda = .host w :: rest →
    decode s.cfg (.hcw w) = .ok i → step s = exec i { s with agenda := rest }) ∧
  (∀ (s : State) (rest : List Move) (i : Instr) (k : WireCmd), s.agenda = .ctrl :: rest → s.mstep = .tx →
    s.sstate ≠ .uploading → wireOf s.op = some k →
    decode s.cfg (.command k (frameOf s.opc s.p).toList) = .ok i → step s = exec i { s with agenda := rest }) ∧
  (∀ (s : State) (rest : List Move), s.agenda = .ctrl :: rest → s.mstep = .tx → s.sstate = .uploading →
    step s = exec (.wUpload s.idx s.packetCount) { s with agenda := rest }) ∧
  (∀ (s : State) (rest : List Move) (i : Instr), s.agenda = .ctrl :: rest → s.mstep = .rx →
    readLen s ≤ s.rxFifo.length → decode s.cfg (.reply (s.rxFifo.take (readLen s))) = .ok i →
    step s = exec i { s with agenda := rest, rxFifo := s.rxFifo.drop (readLen s) }) ∧
  (∀ s : State, s.agenda = [] → step s = ctrlMove s)

/-- CTRL at `step = TX` outside UPLOADING is CMD_TX whatever `OPC` and `P` hold: the 13 bytes of ENCODE's frame at the
current rate (rule R172). -/
def Obligations.CommandTransmitStep : Prop :=
  ∀ s : State, s.mstep = .tx → s.sstate ≠ .uploading →
    ctrlMove s = .next
      { s with
        txf := frameOf s.opc s.p
        ck := (frameOf s.opc s.p)[11]
        txLog := s.txLog ++ (frameOf s.opc s.p).toList.map (fun x => (s.baudSel, x))
        rxNeed := 13, mstep := .rx }

/-- CTRL at `step = RX` outside UPLOADING with 13 bytes queued: the oldest 13 are removed and stored in `RB`, and a
window with a wrong header or tail aborts the session with MALFORMED, whatever else it holds (rules R78, R173, R256). -/
def Obligations.MalformedWindowAborts : Prop :=
  ∀ (s : State) (v rest : List Byte), s.mstep = .rx → s.sstate ≠ .uploading → s.rxFifo = v ++ rest → v.length = 13 →
    v.take 4 ≠ [0x7E, 0x00, 0x08, 0x00] ∨ v.getD 12 0 ≠ 0xE7 →
    ∃ t : State, ctrlMove s = .next t ∧ t.rb.toList = v ∧
      t = { s with
            rb := t.rb, err := .malformed, linkOpen := false, rxFifo := [], capValid := false
            sstate := .disconnected, mstep := .idle }

/-- CTRL at `step = RX` in UPLOADING with the whole reply queued: a window with a wrong header or tail is skipped, the
bytes behind it stay queued, the image is as before, and the sequencer moves on or, after the last packet, ends the
upload (rules R226, R231, R232, R239). -/
def Obligations.MalformedPacketSkipped : Prop :=
  ∀ (s : State) (v rest : List Byte), s.mstep = .rx → s.sstate = .uploading →
    13 ≤ s.rxNeed.toNat → s.rxFifo = v ++ rest → v.length = s.rxNeed.toNat →
    v.take 4 ≠ [0x7E, 0x00, 0x08, 0x00] ∨ v.getD (v.length - 1) 0 ≠ 0xE7 →
    ∃ t : State, ctrlMove s = .next t ∧ t.rb.toList = v.take 11 ++ v.drop (v.length - 2) ∧
      t = { s with
            rb := t.rb, rxFifo := rest, skipCount := s.skipCount + 1, pktErr := .malformed
            err := if s.idx = s.packetCount then
                if s.bufLen.toNat = s.totalBytes.toNat then .ok else .incomplete
              else s.err
            sstate := if s.idx = s.packetCount then .ready else .uploading
            mstep := if s.idx = s.packetCount then .idle else .tx
            idx := if s.idx = s.packetCount then s.idx else s.idx + 1 }

/-- The two timeout steps: with too few bytes queued the read fails, the queued bytes are lost, `RB` is not written; a
command is aborted with TIMEOUT (rule R174), a packet is skipped with TIMEOUT (rule R229). -/
def Obligations.TimedOutRead : Prop :=
  ∀ s : State, s.mstep = .rx →
    (s.sstate ≠ .uploading → s.rxFifo.length < 13 → ctrlMove s = .next
      { s with
        err := .timeout, linkOpen := false, rxFifo := [], capValid := false, sstate := .disconnected
        mstep := .idle }) ∧
    (s.sstate = .uploading → s.rxFifo.length < s.rxNeed.toNat → ctrlMove s = .next
      { s with
        rxFifo := [], skipCount := s.skipCount + 1, pktErr := .timeout
        err := if s.idx = s.packetCount then
            if s.bufLen.toNat = s.totalBytes.toNat then .ok else .incomplete
          else s.err
        sstate := if s.idx = s.packetCount then .ready else .uploading
        mstep := if s.idx = s.packetCount then .idle else .tx
        idx := if s.idx = s.packetCount then s.idx else s.idx + 1 })

/-- The SWITCH step: the rate changes only when the queue is drained; otherwise ORDER aborts the session at the old rate
(rule R185, rule R259). -/
def Obligations.SwitchStepDrainsFirst : Prop :=
  ∀ s : State, s.mstep = .switch →
    (s.rxFifo = [] → ctrlMove s = .next { s with baudSel := s.nbaud, sstate := .ready, mstep := .idle }) ∧
    (s.rxFifo ≠ [] → ctrlMove s = .next
      { s with
        err := .order, linkOpen := false, rxFifo := [], capValid := false, sstate := .disconnected
        mstep := .idle })

/-- ABORT writes what rule R310 lists and keeps everything else (rule R310, rule R311). -/
def Obligations.AbortWritesOnlyItsList : Prop :=
  ∀ (k : ErrKind) (s : State),
    abort k s =
      { s with
        err := k, linkOpen := false, rxFifo := [], capValid := false, sstate := .disconnected, mstep := .idle }

/-- The hardware reset, in any state: every register HOST can read at its reset value, the queue empty, no byte of the
image defined, the configuration kept (rules R340, R341, R343). That the history is emptied (log entry 10) and that the
schedule goes on with the moves that remain (log entry 21) is the model's choice. -/
def Obligations.HardwareResetFromAnyState : Prop :=
  ∀ (s : State) (rest : List Move), s.agenda = .hwReset :: rest →
    ∃ t : State, step s = .next t ∧ t.cfg = s.cfg ∧ t.agenda = rest ∧ t.txLog = [] ∧ t.rxFifo = [] ∧
      (∀ a, imgByte t a = none) ∧
      (∀ r, r ≤ 53 → regRead t r =
        some (if r = 5 ∨ r = 52 then 4 else if r = 6 ∨ r = 53 then s.cfg.defPkt.setWidth 32 else 0))

/-- The reset values HOST reads, register by register (rule R49). -/
def Obligations.ResetRegisterValues : Prop :=
  ∀ (c : Cfg) (r : Nat), r ≤ 53 →
    regRead (State.resetWith c) r =
      some (if r = 5 ∨ r = 52 then 4 else if r = 6 ∨ r = 53 then c.defPkt.setWidth 32 else 0)

/-- The DEV step: one byte joins the end of the queue while the link is open, and leaves no trace while it is closed
(rule R262, rule R263). -/
def Obligations.DevByteQueuedOrDropped : Prop :=
  ∀ (s : State) (x : Byte) (rest : List Move), s.agenda = .dev x :: rest →
    (s.linkOpen = true → step s = .next { s with agenda := rest, rxFifo := s.rxFifo ++ [x] }) ∧
    (s.linkOpen = false → step s = .next { s with agenda := rest })

/-- The HOST write of `ctrl`: bit 0 is stored when idle; the whole write is ignored while busy (rule R38). -/
def Obligations.CtrlWriteTakesBitZero : Prop :=
  ∀ (s : State) (x : BitVec 32) (rest : List Move), s.agenda = .writeCtrl x :: rest →
    (s.mstep = .idle → step s = .next { s with agenda := rest, ctrl := x.extractLsb' 0 1 }) ∧
    (s.mstep ≠ .idle → step s = .next { s with agenda := rest })

/-- HOST reads: the register numbers 0 to 53 read as the table of rule R49 lists them, with the codes of rules R22, R23,
R25 and R34 and `status` a view of `RB[4]` (rule R32), and no other number reads; an image read delivers the stored byte
at every address below `buf_len`; neither changes any register, queue, history or byte of the block (rules R21, R45,
R82). The 32 bits of a read and the schedule are the model's choice (log entries 1, 14). -/
def Obligations.HostReadsDeliverAndChangeNothing : Prop :=
  ∀ (s : State) (rest : List Move),
    (∀ r : Nat, regRead s r =
      ([(match s.sstate with
          | .disconnected => 0 | .configuring => 1 | .ready => 2 | .focusing => 3 | .capturing => 4
          | .uploading => 5 | .resetting => 6),
        (match s.mstep with | .idle => 0 | .tx => 1 | .rx => 2 | .switch => 3),
        (match s.op with
          | .none => 0 | .openOp => 1 | .closeOp => 2 | .configure => 3 | .getversion => 4 | .autofocus => 5
          | .capture => 6 | .upload => 7 | .reset => 8),
        (match s.err with
          | .ok => 0 | .malformed => 1 | .device => 2 | .timeout => 3 | .checksum => 4 | .incomplete => 5
          | .state => 6 | .param => 7 | .order => 8),
        s.ctrl.setWidth 32, s.baudSel.setWidth 32, s.pktSel.setWidth 32, s.timeout,
        (if s.linkOpen then 1 else 0), (if s.capValid then 1 else 0), s.totalBytes.setWidth 32,
        s.packetCount.setWidth 32, s.idx.setWidth 32, s.bufLen.setWidth 32, s.skipCount.setWidth 32,
        s.rb[4].setWidth 32, s.ck.setWidth 32, s.opc.setWidth 32] ++
        s.p.toList.map (·.setWidth 32) ++ s.txf.toList.map (·.setWidth 32) ++ s.rb.toList.map (·.setWidth 32) ++
        [s.rxNeed.setWidth 32,
        (match s.pktErr with
          | .ok => 0 | .malformed => 1 | .device => 2 | .timeout => 3 | .checksum => 4 | .incomplete => 5
          | .state => 6 | .param => 7 | .order => 8),
        s.nbaud.setWidth 32, s.npkt.setWidth 32])[r]?) ∧
    (∀ r x, s.agenda = .readReg r :: rest → regRead s r = some x →
      step s = .next { s with agenda := rest, hostReg := x }) ∧
    (∀ a n, s.agenda = .readImg a n :: rest →
      ∃ t, step s = .next t ∧ t.hostMem.length = n ∧
        (∀ j b, j < n → a + j < s.bufLen.toNat → s.img.read (a + j) = some b → t.hostMem[j]? = some b) ∧
        t = { s with agenda := rest, hostMem := t.hostMem, draws := t.draws })

/-! ### The whole machine -/

/-- The reset state meets the invariant under every configuration (rules R50, R340). Its image memory is in the model's
canonical form (log entry 8), and the model's open code tables are injective as rule R9 asks (log entry 18). -/
def Obligations.ResetMeetsInvariant : Prop :=
  (∀ c : Cfg, (State.resetWith c).Inv ∧ (State.resetWith c).img.wf) ∧ State.reset.cfg.wf

/-- Every step keeps the invariant, whatever HOST, DEV and CTRL do (rule R50 with what it rests on). -/
def Obligations.StepKeepsInvariant : Prop :=
  ∀ s t : State, s.Inv → step s = .next t → t.Inv

/-- The seven invariants of rule R50 hold after reset under every configuration and every schedule of HOST, DEV and
CTRL, at every step (rule R50). -/
def Obligations.EveryRunIsConsistent : Prop :=
  ∀ (c : Cfg) (moves : List Move) (k : Nat) (t : State),
    Host.Core.run core k { State.resetWith c with agenda := moves } = .next t → t.Consistent

/-- Every step keeps the canonical form of the image memory, in every state. -/
def Obligations.StepKeepsMemoryCanonical : Prop :=
  ∀ s t : State, s.img.wf → step s = .next t → t.img.wf

/-- The block cannot hang or fault: from a state that meets the invariant a step answers a next state (rule R356), but for
the HOST read of a register that rule R49 does not list. That such a read is refused by name is the model's choice (log
entry 14). -/
def Obligations.StepNeverStops : Prop :=
  ∀ s : State, s.Inv →
    (∃ t, step s = .next t) ∨ (∃ r, 54 ≤ r ∧ nextMove s = .readReg r ∧ step s = .refused (.noSuchRegister r))

/-- Every operation ends: after 3 CTRL moves for a command, two for each packet left of an upload, the block is idle,
whatever bytes DEV sends between them and however many (rule R356). -/
def Obligations.OperationsEnd : Prop :=
  ∀ s : State, s.Inv → s.mstep ≠ .idle → (∀ m ∈ s.agenda, m.isDevOrCtrl = true) →
    ctrlBound s ≤ s.agenda.count .ctrl →
    ∃ t : State, Host.Core.run core s.agenda.length s = .next t ∧ t.mstep = .idle

/-- No transition of the session state exists but those of the table, each with its cause (rule R215). -/
def Obligations.SessionTransitionsAreTheTable : Prop :=
  ∀ s t : State, s.Inv → step s = .next t → Transition s t (nextMove s)

/-- The rate changes only in a SWITCH step with the queue drained, in an accepted OPEN, or in the hardware reset
(rules R39, R86, R350). -/
def Obligations.RateChangesOnlyWhenDrained : Prop :=
  ∀ s t : State, step s = .next t → t.baudSel ≠ s.baudSel →
    (nextMove s = .ctrl ∧ s.mstep = .switch ∧ s.rxFifo = [] ∧ t.rxFifo = [] ∧ t.baudSel = s.nbaud ∧
      t.txLog = s.txLog) ∨
    (∃ w b n, nextMove s = .host w ∧ decodeHcw w = .openOp b n ∧ s.mstep = .idle ∧ s.sstate = .disconnected ∧
      t.baudSel = b ∧ t.rxFifo = [] ∧ t.txLog = s.txLog) ∨
    nextMove s = .hwReset

/-- The wire history grows by whole frames only: a step adds nothing, or the 13 bytes of one frame ENCODE builds, all at
the current rate, and then from TX to RX: no command while a reply is outstanding (rules R79, R254, R255). -/
def Obligations.TransmitsWholeFramesOnly : Prop :=
  ∀ s t : State, step s = .next t → nextMove s ≠ .hwReset →
    t.txLog = s.txLog ∨
    (s.mstep = .tx ∧ t.mstep = .rx ∧ nextMove s = .ctrl ∧
      ∃ o q, t.txLog = s.txLog ++ (frameOf o q).toList.map (fun x => (s.baudSel, x)))

/-- The receive queue: a step leaves it alone, adds one byte of DEV's at the end, takes the outstanding read's bytes from
the front, or empties it, and it is emptied only by OPEN, CLOSE, a timed-out read, an abort or the reset (rule R46). -/
def Obligations.ReceiveQueueDiscipline : Prop :=
  ∀ s t : State, step s = .next t → t.rxFifo ≠ s.rxFifo →
    (∃ x, nextMove s = .dev x ∧ s.linkOpen = true ∧ t.rxFifo = s.rxFifo ++ [x]) ∨
    (nextMove s = .ctrl ∧ s.mstep = .rx ∧ readLen s ≤ s.rxFifo.length ∧ t.rxFifo = s.rxFifo.drop (readLen s)) ∨
    (t.rxFifo = [] ∧
      ((∃ w, nextMove s = .host w ∧ s.mstep = .idle ∧
          ((∃ b n, decodeHcw w = .openOp b n) ∨ decodeHcw w = .closeOp)) ∨
       (nextMove s = .ctrl ∧ s.mstep = .rx ∧ s.rxFifo.length < readLen s) ∨
       (nextMove s = .ctrl ∧ t.sstate = .disconnected ∧ t.linkOpen = false ∧ t.err ≠ .ok) ∨
       nextMove s = .hwReset))

/-- The image is append-only: a byte below `buf_len` keeps its value through every step that does not shorten the
buffer, and only an accepted CAPTURE or UPLOAD or the reset shortens it (rules R44, R81). -/
def Obligations.ImageIsAppendOnly : Prop :=
  ∀ s t : State, s.Inv → step s = .next t →
    (s.bufLen.toNat ≤ t.bufLen.toNat → ∀ a, a < s.bufLen.toNat → imgByte t a = imgByte s a) ∧
    (t.bufLen.toNat < s.bufLen.toNat →
      nextMove s = .hwReset ∨
      ∃ w, nextMove s = .host w ∧ s.mstep = .idle ∧ s.sstate = .ready ∧
        (decodeHcw w = .upload ∨ ∃ r c f e, decodeHcw w = .capture r c f e))

/-- Every failure of a command ends with the link closed: a CTRL step outside UPLOADING that leaves a nonzero `err` has
aborted the session and kept everything rule R311 lists. `RB` holds the offending reply, or keeps its value after a
timeout and in the SWITCH step; `CK` keeps its value where DECODE computes no sum (rules R145, R253, R309, R310, R311,
R315). The `pkt_sel` a failed SWITCH leaves is the one the RX step before it wrote. -/
def Obligations.CommandFailureClosesLink : Prop :=
  ∀ s t : State, s.Inv → s.mstep ≠ .idle → s.sstate ≠ .uploading → nextMove s = .ctrl → step s = .next t →
    t.err ≠ .ok →
    t = { s with
          agenda := s.agenda.tail, rb := t.rb, ck := t.ck, err := t.err, linkOpen := false, rxFifo := []
          capValid := false, sstate := .disconnected, mstep := .idle } ∧
    (s.mstep = .rx → 13 ≤ s.rxFifo.length → t.rb.toList = s.rxFifo.take 13) ∧
    (s.mstep = .rx → s.rxFifo.length < 13 → t.err = .timeout ∧ t.rb = s.rb ∧ t.ck = s.ck) ∧
    (s.mstep = .switch → t.err = .order ∧ t.rb = s.rb ∧ t.ck = s.ck) ∧
    (s.ctrl = 0 → t.ck = s.ck)

/-- No failure of a packet ends the session: a CTRL step in UPLOADING leaves the link open and the session UPLOADING or
READY, and a packet is either appended whole or counted as skipped with its kind (rules R232, R309, R315). -/
def Obligations.PacketFailureKeepsSession : Prop :=
  ∀ s t : State, s.Inv → s.sstate = .uploading → nextMove s = .ctrl → step s = .next t →
    t.linkOpen = true ∧ (t.sstate = .uploading ∨ t.sstate = .ready) ∧
    (s.mstep = .rx →
      (t.skipCount = s.skipCount ∧ t.bufLen.toNat = s.bufLen.toNat + expectedLength s s.idx) ∨
      (t.skipCount.toNat = s.skipCount.toNat + 1 ∧ t.bufLen = s.bufLen ∧ t.img = s.img ∧ t.pktErr ≠ .ok))

/-- The configuration is written by no step, and `ctrl` and `timeout` only by HOST's write, an accepted OPEN and the
reset (rules R9, R38, R41, R88). -/
def Obligations.ConfigurationAndControlAreStable : Prop :=
  ∀ s t : State, step s = .next t →
    t.cfg = s.cfg ∧
    (t.ctrl ≠ s.ctrl → nextMove s = .hwReset ∨ (s.mstep = .idle ∧ ∃ x, nextMove s = .writeCtrl x)) ∧
    (t.timeout ≠ s.timeout → nextMove s = .hwReset ∨
      ∃ w b, nextMove s = .host w ∧ decodeHcw w = .openOp b t.timeout ∧ s.mstep = .idle ∧ s.sstate = .disconnected)

/-- The last-packet rule: the full packet size for every index but the last; for the last the remainder, or the full size
when the remainder is 0; always in 1..PS (rule R223). `PS` is `PKT_SIZE` of the index in `pkt_sel`, and the two constant
tables are those of rule R8, index by index. -/
def Obligations.ExpectedLengthRule : Prop :=
  (∀ (s : State) (i : BitVec 16),
    (i ≠ s.packetCount → expectedLength s i = pktSize s.pktSel) ∧
    (i = s.packetCount → s.totalBytes.toNat % pktSize s.pktSel = 0 → expectedLength s i = pktSize s.pktSel) ∧
    (i = s.packetCount → s.totalBytes.toNat % pktSize s.pktSel ≠ 0 →
      expectedLength s i = s.totalBytes.toNat % pktSize s.pktSel) ∧
    1 ≤ expectedLength s i ∧ expectedLength s i ≤ pktSize s.pktSel) ∧
  (pktSize 0 = 256 ∧ pktSize 1 = 512 ∧ pktSize 2 = 1024 ∧ pktSize 3 = 2048) ∧
  (baudRate 0 = 9600 ∧ baudRate 1 = 19200 ∧ baudRate 2 = 38400 ∧ baudRate 3 = 57600 ∧ baudRate 4 = 115200 ∧
    baudRate 5 = 230400 ∧ baudRate 6 = 460800 ∧ baudRate 7 = 921600)

/-- A consistent capture result assembles to exactly its total: the expected lengths of packets 1 to `packet_count` add
up to `total_bytes` when `packet_count` is the least number of packets that hold them (rule R236). -/
def Obligations.ExpectedLengthsAddUpToTotal : Prop :=
  ∀ s : State, 1 ≤ s.totalBytes.toNat →
    s.packetCount.toNat = (s.totalBytes.toNat + pktSize s.pktSel - 1) / pktSize s.pktSel →
    ((List.range s.packetCount.toNat).map (fun j => expectedLength s (BitVec.ofNat 16 (j + 1)))).sum =
      s.totalBytes.toNat

/-- A CONFIGURE run: the frame goes out at the old rate, the reply is read at the old rate, and only then the rate is the
new one (rules R86, R181 to R186). -/
def Obligations.ConfigureRunSwitchesAfterReply : Prop :=
  ∀ (s : State) (w : HostWord) (b : BitVec 3) (z : BitVec 2),
    s.mstep = .idle → s.sstate = .configuring → s.linkOpen = true → s.rxFifo = [] → decodeHcw w = .configure b z →
    s.agenda = [.host w, .ctrl] ++ devBytes okReply ++ [.ctrl, .ctrl] →
    ∃ t u : State,
      Host.Core.run core 16 s = .next t ∧ t.mstep = .switch ∧ t.baudSel = s.baudSel ∧ t.pktSel = z ∧
      t.txLog = s.txLog ++
        (frameOf s.cfg.opcConfig (paramsConfig s.cfg b z)).toList.map (fun x => (s.baudSel, x)) ∧
      step t = .next u ∧ u.mstep = .idle ∧ u.sstate = .ready ∧ u.err = .ok ∧ u.baudSel = b ∧ u.pktSel = z ∧
      u.linkOpen = true ∧ u.txLog = t.txLog ∧ u.rxFifo = []

/-- An UPLOAD run against a camera that answers some packets and stays silent on others: the image is the answered
payloads in packet order with no gap, the skips are counted, every index is requested once in order at the current rate,
and the result is OK exactly when the total is reached (rules R221 to R235, R237). -/
def Obligations.UploadRunAssemblesAnsweredPackets : Prop :=
  ∀ (s : State) (packets : List (Option (List Byte))),
    s.mstep = .idle → s.sstate = .ready → s.capValid = true → s.linkOpen = true → s.rxFifo = [] →
    1 ≤ packets.length → s.packetCount.toNat = packets.length →
    (∀ (j : Nat) (d : List Byte), packets[j]? = some (some d) →
      d.length = expectedLength s (BitVec.ofNat 16 (j + 1))) →
    s.agenda = .host 0x7000000000 :: packets.flatMap packetMoves →
    ∃ t : State, Host.Core.run core s.agenda.length s = .next t ∧
      t.sstate = .ready ∧ t.mstep = .idle ∧ t.op = .upload ∧ t.linkOpen = true ∧ t.rxFifo = [] ∧
      t.idx = s.packetCount ∧ t.skipCount.toNat = packets.count none ∧
      t.bufLen.toNat = (assembled packets).length ∧ (∀ a, imgByte t a = (assembled packets)[a]?) ∧
      t.err = (if (assembled packets).length = s.totalBytes.toNat then .ok else .incomplete) ∧
      t.txLog = s.txLog ++ (List.range packets.length).flatMap (fun j =>
        (frameOf s.cfg.opcUpload (paramsUpload (BitVec.ofNat 16 (j + 1)) s.packetCount)).toList.map
          (fun x => (s.baudSel, x)))
end

