-- ==== Sys2Proof/Laws/Codec.lean ====
section
/-! SUPPORT. The small laws of the byte order, of the frame and of the reply checks: one lemma per function. -/

namespace Sys2Proof

theorem be2_toNat (a b : Byte) : (be2 a b).toNat = a.toNat * 256 + b.toNat := by
  have := a.isLt
  have := b.isLt
  simp only [be2, BitVec.toNat_ofNat]
  omega

theorem be3_toNat (a b c : Byte) : (be3 a b c).toNat = a.toNat * 65536 + b.toNat * 256 + c.toNat := by
  have := a.isLt
  have := b.isLt
  have := c.isLt
  simp only [be3, BitVec.toNat_ofNat]
  omega

theorem hi8_toNat (v : BitVec 16) : (hi8 v).toNat = v.toNat / 256 := by
  have := v.isLt
  simp only [hi8, BitVec.extractLsb'_toNat, Nat.shiftRight_eq_div_pow]
  omega

theorem lo8_toNat (v : BitVec 16) : (lo8 v).toNat = v.toNat % 256 := by
  simp only [lo8, BitVec.extractLsb'_toNat, Nat.shiftRight_eq_div_pow]
  omega

@[simp] theorem be2_hi8_lo8 (v : BitVec 16) : be2 (hi8 v) (lo8 v) = v := by
  apply BitVec.eq_of_toNat_eq
  rw [be2_toNat, hi8_toNat, lo8_toNat]
  omega

theorem sumBytes_append (a b : List Byte) : sumBytes (a ++ b) = sumBytes a + sumBytes b := by
  induction a with
  | nil => simp [sumBytes]
  | cons x xs ih => simp [sumBytes, ih, BitVec.add_assoc]

/-- The frame as a list, position by position. -/
theorem frameOf_toList (o : Byte) (p : Params) :
    (frameOf o p).toList = [0x7E, 0x00, 0x08, 0x00, o, p[0], p[1], p[2], p[3], p[4], p[5], (frameOf o p)[11], 0xE7] :=
  rfl

/-- The checksum byte of a frame, with the constant header already summed (rule R141). -/
theorem frameOf_checksum (o : Byte) (p : Params) :
    (frameOf o p)[11] = 8 + (o + (p[0] + (p[1] + (p[2] + (p[3] + (p[4] + p[5])))))) := by
  simp [frameOf, cksum, sumBytes, ← BitVec.add_assoc]

theorem params_eq (p : Params) : #v[p[0], p[1], p[2], p[3], p[4], p[5]] = p := by
  apply Vector.ext
  intro i hi
  match i, hi with
  | 0, _ => rfl
  | 1, _ => rfl
  | 2, _ => rfl
  | 3, _ => rfl
  | 4, _ => rfl
  | 5, _ => rfl

/-- Six bytes as a list, position by position. -/
theorem params_toList (p : Params) : p.toList = [p[0], p[1], p[2], p[3], p[4], p[5]] := by
  conv => lhs; rw [← params_eq p]
  rfl

end Sys2Proof

namespace Sys2Proof.Machine

/-- The packet sizes (rule R8). -/
theorem pktSize_cases (z : BitVec 2) : pktSize z = 256 ∨ pktSize z = 512 ∨ pktSize z = 1024 ∨ pktSize z = 2048 := by
  revert z
  decide

/-- The payload length is in 1..PS (rule R223). -/
theorem expectedLength_bounds (s : State) (i : BitVec 16) :
    1 ≤ expectedLength s i ∧ expectedLength s i ≤ pktSize s.pktSel ∧ pktSize s.pktSel ≤ 2048 := by
  have h := pktSize_cases s.pktSel
  have h1 := Nat.mod_lt s.totalBytes.toNat (y := pktSize s.pktSel) (by omega)
  unfold expectedLength
  split
  · omega
  · split <;> omega

/-- The expected length reads `packet_count`, `pkt_sel` and `total_bytes` only. -/
theorem expectedLength_congr {s t : State} (hc : s.packetCount = t.packetCount) (hp : s.pktSel = t.pktSel)
    (ht : s.totalBytes = t.totalBytes) (i : BitVec 16) : expectedLength s i = expectedLength t i := by
  unfold expectedLength
  rw [hc, hp, ht]

/-- Everything `replyCheck` can answer (rule R145, rule R147). -/
theorem replyCheck_cases (check : Bool) (v : List Byte) (n : Nat) :
    (envelopeOk v n = false ∧ replyCheck check v n = .error .malformed) ∨
    (envelopeOk v n = true ∧ check = true ∧ v.getD (n - 2) 0 ≠ replySum v n ∧
      replyCheck check v n = .error .checksum) ∨
    (envelopeOk v n = true ∧ (check = true → v.getD (n - 2) 0 = replySum v n) ∧
      replyCheck check v n = .ok { status := v.getD 4 0, body := (v.drop 5).take (n - 7) }) := by
  unfold replyCheck
  by_cases he : envelopeOk v n = true
  · by_cases hc : check = true
    · by_cases hs : v.getD (n - 2) 0 = replySum v n
      · right; right
        simp only [he, hc, Bool.not_true, true_and, true_implies]
        simpa using hs
      · right; left
        simp only [he, hc, Bool.not_true, true_and]
        simpa using hs
    · right; right
      simp [he, hc]
  · left
    simp [he]

end Sys2Proof.Machine
end

