-- ==== Sys2Proof/Laws/Memory.lean ====
section
/-! SUPPORT. The laws of the image memory: every operation keeps the canonical form; a read after a write gives the byte
written inside the block and the old byte outside it. -/

namespace Sys2Proof.Machine

@[simp] theorem cellsFrom_addresses (a : Nat) (v : List Byte) :
    (cellsFrom a v).map Prod.fst = List.range' a v.length := by
  induction v generalizing a with
  | nil => rfl
  | cons b bs ih => simp [cellsFrom, ih, List.range'_succ]

theorem mem_cellsFrom_bounds {a : Nat} {v : List Byte} {c : Host.Cell} (h : c ∈ cellsFrom a v) :
    a ≤ c.1 ∧ c.1 < a + v.length := by
  have h1 : c.1 ∈ (cellsFrom a v).map Prod.fst := List.mem_map_of_mem h
  rw [cellsFrom_addresses, List.mem_range'_1] at h1
  exact h1

/-- The empty memory is canonical. -/
theorem wf_nil : Memory.wf [] := List.Pairwise.nil

/-- A write keeps the canonical form. -/
theorem write_wf {m : Memory} (hm : m.wf) (a : Nat) (v : List Byte) : (m.write a v).wf := by
  have filtered (q : Host.Cell → Bool) : ((m.filter q).map Prod.fst).Pairwise (· < ·) :=
    List.Pairwise.sublist (List.Sublist.map _ List.filter_sublist) hm
  simp only [Memory.wf, Memory.write, List.map_append, List.pairwise_append]
  refine ⟨⟨filtered _, ?_, ?_⟩, filtered _, ?_⟩
  · rw [cellsFrom_addresses]
    exact List.pairwise_lt_range'
  · intro x hx y hy
    obtain ⟨c, hc, rfl⟩ := List.mem_map.mp hx
    obtain ⟨d, hd, rfl⟩ := List.mem_map.mp hy
    have := (mem_cellsFrom_bounds hd).1
    simp at hc
    omega
  · intro x hx y hy
    obtain ⟨d, hd, rfl⟩ := List.mem_map.mp hy
    simp at hd
    rcases List.mem_append.mp hx with h | h
    · obtain ⟨c, hc, rfl⟩ := List.mem_map.mp h
      simp at hc
      omega
    · obtain ⟨c, hc, rfl⟩ := List.mem_map.mp h
      have := (mem_cellsFrom_bounds hc).2
      omega

theorem find_cellsFrom_outside {a x : Nat} {v : List Byte} (h : x < a ∨ a + v.length ≤ x) :
    (cellsFrom a v).find? (fun c => c.1 == x) = none := by
  rw [List.find?_eq_none]
  intro c hc
  have := mem_cellsFrom_bounds hc
  simp only [beq_iff_eq]
  omega

theorem find_cellsFrom_inside {a i : Nat} {v : List Byte} :
    ((cellsFrom a v).find? (fun c => c.1 == a + i)).map Prod.snd = v[i]? := by
  induction v generalizing a i with
  | nil => rfl
  | cons b bs ih =>
    cases i with
    | zero => simp [cellsFrom]
    | succ i =>
      have h : (a == a + (i + 1)) = false := by simp
      have h1 : a + (i + 1) = a + 1 + i := by omega
      rw [List.getElem?_cons_succ, ← ih (a := a + 1), cellsFrom, List.find?_cons, h, h1]

theorem find_filter_of_imp {m : Memory} {q : Host.Cell → Bool} {x : Nat} (h : ∀ c : Host.Cell, c.1 = x → q c = true) :
    (m.filter q).find? (fun c => c.1 == x) = m.find? (fun c => c.1 == x) := by
  rw [List.find?_filter]
  congr 1
  funext c
  by_cases hc : c.1 = x
  · simp [hc, h c hc]
  · simp [hc]

theorem find_filter_of_not {m : Memory} {q : Host.Cell → Bool} {x : Nat} (h : ∀ c : Host.Cell, c.1 = x → q c = false) :
    (m.filter q).find? (fun c => c.1 == x) = none := by
  rw [List.find?_eq_none]
  intro c hc hx
  have h1 := (List.mem_filter.mp hc).2
  rw [h c (by simpa using hx)] at h1
  cases h1

/-- Outside the written block every address reads as before. -/
theorem read_write_outside (m : Memory) {a x : Nat} {v : List Byte} (h : x < a ∨ a + v.length ≤ x) :
    (m.write a v).read x = m.read x := by
  simp only [Memory.read, Memory.write, List.find?_append, find_cellsFrom_outside h]
  rcases Nat.lt_or_ge x a with hx | hx
  · rw [find_filter_of_imp (fun c hc => by simp; omega), find_filter_of_not (fun c hc => by simp; omega)]
    simp
  · rw [find_filter_of_not (fun c hc => by simp; omega), find_filter_of_imp (fun c hc => by simp; omega)]
    simp

/-- Inside the written block an address reads as the byte written there. -/
theorem read_write_inside (m : Memory) {a i : Nat} {v : List Byte} (h : i < v.length) :
    (m.write a v).read (a + i) = some v[i] := by
  have h1 := find_cellsFrom_inside (a := a) (i := i) (v := v)
  rw [List.getElem?_eq_getElem h] at h1
  simp only [Memory.read, Memory.write, List.find?_append]
  rw [find_filter_of_not (fun c hc => by simp; omega)]
  cases hf : (cellsFrom a v).find? (fun c => c.1 == a + i) with
  | none => rw [hf] at h1; cases h1
  | some c => rw [hf] at h1; simpa using h1

/-- A block written at the end of a gapless image leaves it gapless. -/
theorem write_addresses {m : Memory} {n : Nat} (hm : m.map Prod.fst = List.range n) (v : List Byte) :
    (m.write n v).map Prod.fst = List.range (n + v.length) := by
  have hlt : ∀ c ∈ m, c.1 < n := by
    intro c hc
    have : c.1 ∈ m.map Prod.fst := List.mem_map_of_mem hc
    rw [hm] at this
    simpa using this
  have h1 : m.filter (fun c => c.1 < n) = m := List.filter_eq_self.mpr (fun c hc => by simpa using hlt c hc)
  have h2 : m.filter (fun c => n + v.length ≤ c.1) = [] :=
    List.filter_eq_nil_iff.mpr (fun c hc => by have := hlt c hc; simp; omega)
  rw [Memory.write, h1, h2, List.append_nil, List.map_append, hm, cellsFrom_addresses, List.range_eq_range',
    List.range_eq_range']
  simpa using List.range'_append_1 (s := 0) (m := n) (n := v.length)

end Sys2Proof.Machine
end

