-- ==== Sys2Proof/Laws/State.lean ====
section
/-! SUPPORT. One lemma per field per shared update, true by unfolding once (a composed
update by the lemmas of its parts): later proofs never unfold an update. -/

namespace Sys2Proof.Machine

section tOpenFields

variable (b : BitVec 3) (t : BitVec 32) (s : State)

@[simp] theorem tOpen_sstate : (tOpen b t s).sstate = s.sstate := rfl
@[simp] theorem tOpen_mstep : (tOpen b t s).mstep = s.mstep := rfl
@[simp] theorem tOpen_op : (tOpen b t s).op = s.op := rfl
@[simp] theorem tOpen_err : (tOpen b t s).err = s.err := rfl
@[simp] theorem tOpen_ctrl : (tOpen b t s).ctrl = s.ctrl := rfl
@[simp] theorem tOpen_baudSel : (tOpen b t s).baudSel = b := rfl
@[simp] theorem tOpen_pktSel : (tOpen b t s).pktSel = s.pktSel := rfl
@[simp] theorem tOpen_timeout : (tOpen b t s).timeout = t := rfl
@[simp] theorem tOpen_linkOpen : (tOpen b t s).linkOpen = true := rfl
@[simp] theorem tOpen_capValid : (tOpen b t s).capValid = s.capValid := rfl
@[simp] theorem tOpen_totalBytes : (tOpen b t s).totalBytes = s.totalBytes := rfl
@[simp] theorem tOpen_packetCount : (tOpen b t s).packetCount = s.packetCount := rfl
@[simp] theorem tOpen_idx : (tOpen b t s).idx = s.idx := rfl
@[simp] theorem tOpen_bufLen : (tOpen b t s).bufLen = s.bufLen := rfl
@[simp] theorem tOpen_skipCount : (tOpen b t s).skipCount = s.skipCount := rfl
@[simp] theorem tOpen_ck : (tOpen b t s).ck = s.ck := rfl
@[simp] theorem tOpen_opc : (tOpen b t s).opc = s.opc := rfl
@[simp] theorem tOpen_p : (tOpen b t s).p = s.p := rfl
@[simp] theorem tOpen_txf : (tOpen b t s).txf = s.txf := rfl
@[simp] theorem tOpen_rb : (tOpen b t s).rb = s.rb := rfl
@[simp] theorem tOpen_rxNeed : (tOpen b t s).rxNeed = s.rxNeed := rfl
@[simp] theorem tOpen_pktErr : (tOpen b t s).pktErr = s.pktErr := rfl
@[simp] theorem tOpen_nbaud : (tOpen b t s).nbaud = s.nbaud := rfl
@[simp] theorem tOpen_npkt : (tOpen b t s).npkt = s.npkt := rfl
@[simp] theorem tOpen_img : (tOpen b t s).img = s.img := rfl
@[simp] theorem tOpen_rxFifo : (tOpen b t s).rxFifo = [] := rfl
@[simp] theorem tOpen_txLog : (tOpen b t s).txLog = s.txLog := rfl
@[simp] theorem tOpen_cfg : (tOpen b t s).cfg = s.cfg := rfl
@[simp] theorem tOpen_agenda : (tOpen b t s).agenda = s.agenda := rfl
@[simp] theorem tOpen_hostReg : (tOpen b t s).hostReg = s.hostReg := rfl
@[simp] theorem tOpen_hostMem : (tOpen b t s).hostMem = s.hostMem := rfl
@[simp] theorem tOpen_draws : (tOpen b t s).draws = s.draws := rfl

end tOpenFields

section tCloseFields

variable (s : State)

@[simp] theorem tClose_sstate : (tClose s).sstate = s.sstate := rfl
@[simp] theorem tClose_mstep : (tClose s).mstep = s.mstep := rfl
@[simp] theorem tClose_op : (tClose s).op = s.op := rfl
@[simp] theorem tClose_err : (tClose s).err = s.err := rfl
@[simp] theorem tClose_ctrl : (tClose s).ctrl = s.ctrl := rfl
@[simp] theorem tClose_baudSel : (tClose s).baudSel = s.baudSel := rfl
@[simp] theorem tClose_pktSel : (tClose s).pktSel = s.pktSel := rfl
@[simp] theorem tClose_timeout : (tClose s).timeout = s.timeout := rfl
@[simp] theorem tClose_linkOpen : (tClose s).linkOpen = false := rfl
@[simp] theorem tClose_capValid : (tClose s).capValid = s.capValid := rfl
@[simp] theorem tClose_totalBytes : (tClose s).totalBytes = s.totalBytes := rfl
@[simp] theorem tClose_packetCount : (tClose s).packetCount = s.packetCount := rfl
@[simp] theorem tClose_idx : (tClose s).idx = s.idx := rfl
@[simp] theorem tClose_bufLen : (tClose s).bufLen = s.bufLen := rfl
@[simp] theorem tClose_skipCount : (tClose s).skipCount = s.skipCount := rfl
@[simp] theorem tClose_ck : (tClose s).ck = s.ck := rfl
@[simp] theorem tClose_opc : (tClose s).opc = s.opc := rfl
@[simp] theorem tClose_p : (tClose s).p = s.p := rfl
@[simp] theorem tClose_txf : (tClose s).txf = s.txf := rfl
@[simp] theorem tClose_rb : (tClose s).rb = s.rb := rfl
@[simp] theorem tClose_rxNeed : (tClose s).rxNeed = s.rxNeed := rfl
@[simp] theorem tClose_pktErr : (tClose s).pktErr = s.pktErr := rfl
@[simp] theorem tClose_nbaud : (tClose s).nbaud = s.nbaud := rfl
@[simp] theorem tClose_npkt : (tClose s).npkt = s.npkt := rfl
@[simp] theorem tClose_img : (tClose s).img = s.img := rfl
@[simp] theorem tClose_rxFifo : (tClose s).rxFifo = [] := rfl
@[simp] theorem tClose_txLog : (tClose s).txLog = s.txLog := rfl
@[simp] theorem tClose_cfg : (tClose s).cfg = s.cfg := rfl
@[simp] theorem tClose_agenda : (tClose s).agenda = s.agenda := rfl
@[simp] theorem tClose_hostReg : (tClose s).hostReg = s.hostReg := rfl
@[simp] theorem tClose_hostMem : (tClose s).hostMem = s.hostMem := rfl
@[simp] theorem tClose_draws : (tClose s).draws = s.draws := rfl

end tCloseFields

section tReadTimeoutFields

variable (s : State)

@[simp] theorem tReadTimeout_sstate : (tReadTimeout s).sstate = s.sstate := rfl
@[simp] theorem tReadTimeout_mstep : (tReadTimeout s).mstep = s.mstep := rfl
@[simp] theorem tReadTimeout_op : (tReadTimeout s).op = s.op := rfl
@[simp] theorem tReadTimeout_err : (tReadTimeout s).err = s.err := rfl
@[simp] theorem tReadTimeout_ctrl : (tReadTimeout s).ctrl = s.ctrl := rfl
@[simp] theorem tReadTimeout_baudSel : (tReadTimeout s).baudSel = s.baudSel := rfl
@[simp] theorem tReadTimeout_pktSel : (tReadTimeout s).pktSel = s.pktSel := rfl
@[simp] theorem tReadTimeout_timeout : (tReadTimeout s).timeout = s.timeout := rfl
@[simp] theorem tReadTimeout_linkOpen : (tReadTimeout s).linkOpen = s.linkOpen := rfl
@[simp] theorem tReadTimeout_capValid : (tReadTimeout s).capValid = s.capValid := rfl
@[simp] theorem tReadTimeout_totalBytes : (tReadTimeout s).totalBytes = s.totalBytes := rfl
@[simp] theorem tReadTimeout_packetCount : (tReadTimeout s).packetCount = s.packetCount := rfl
@[simp] theorem tReadTimeout_idx : (tReadTimeout s).idx = s.idx := rfl
@[simp] theorem tReadTimeout_bufLen : (tReadTimeout s).bufLen = s.bufLen := rfl
@[simp] theorem tReadTimeout_skipCount : (tReadTimeout s).skipCount = s.skipCount := rfl
@[simp] theorem tReadTimeout_ck : (tReadTimeout s).ck = s.ck := rfl
@[simp] theorem tReadTimeout_opc : (tReadTimeout s).opc = s.opc := rfl
@[simp] theorem tReadTimeout_p : (tReadTimeout s).p = s.p := rfl
@[simp] theorem tReadTimeout_txf : (tReadTimeout s).txf = s.txf := rfl
@[simp] theorem tReadTimeout_rb : (tReadTimeout s).rb = s.rb := rfl
@[simp] theorem tReadTimeout_rxNeed : (tReadTimeout s).rxNeed = s.rxNeed := rfl
@[simp] theorem tReadTimeout_pktErr : (tReadTimeout s).pktErr = s.pktErr := rfl
@[simp] theorem tReadTimeout_nbaud : (tReadTimeout s).nbaud = s.nbaud := rfl
@[simp] theorem tReadTimeout_npkt : (tReadTimeout s).npkt = s.npkt := rfl
@[simp] theorem tReadTimeout_img : (tReadTimeout s).img = s.img := rfl
@[simp] theorem tReadTimeout_rxFifo : (tReadTimeout s).rxFifo = [] := rfl
@[simp] theorem tReadTimeout_txLog : (tReadTimeout s).txLog = s.txLog := rfl
@[simp] theorem tReadTimeout_cfg : (tReadTimeout s).cfg = s.cfg := rfl
@[simp] theorem tReadTimeout_agenda : (tReadTimeout s).agenda = s.agenda := rfl
@[simp] theorem tReadTimeout_hostReg : (tReadTimeout s).hostReg = s.hostReg := rfl
@[simp] theorem tReadTimeout_hostMem : (tReadTimeout s).hostMem = s.hostMem := rfl
@[simp] theorem tReadTimeout_draws : (tReadTimeout s).draws = s.draws := rfl

end tReadTimeoutFields

section tWriteFields

variable (f : Frame) (s : State)

@[simp] theorem tWrite_sstate : (tWrite f s).sstate = s.sstate := rfl
@[simp] theorem tWrite_mstep : (tWrite f s).mstep = s.mstep := rfl
@[simp] theorem tWrite_op : (tWrite f s).op = s.op := rfl
@[simp] theorem tWrite_err : (tWrite f s).err = s.err := rfl
@[simp] theorem tWrite_ctrl : (tWrite f s).ctrl = s.ctrl := rfl
@[simp] theorem tWrite_baudSel : (tWrite f s).baudSel = s.baudSel := rfl
@[simp] theorem tWrite_pktSel : (tWrite f s).pktSel = s.pktSel := rfl
@[simp] theorem tWrite_timeout : (tWrite f s).timeout = s.timeout := rfl
@[simp] theorem tWrite_linkOpen : (tWrite f s).linkOpen = s.linkOpen := rfl
@[simp] theorem tWrite_capValid : (tWrite f s).capValid = s.capValid := rfl
@[simp] theorem tWrite_totalBytes : (tWrite f s).totalBytes = s.totalBytes := rfl
@[simp] theorem tWrite_packetCount : (tWrite f s).packetCount = s.packetCount := rfl
@[simp] theorem tWrite_idx : (tWrite f s).idx = s.idx := rfl
@[simp] theorem tWrite_bufLen : (tWrite f s).bufLen = s.bufLen := rfl
@[simp] theorem tWrite_skipCount : (tWrite f s).skipCount = s.skipCount := rfl
@[simp] theorem tWrite_ck : (tWrite f s).ck = s.ck := rfl
@[simp] theorem tWrite_opc : (tWrite f s).opc = s.opc := rfl
@[simp] theorem tWrite_p : (tWrite f s).p = s.p := rfl
@[simp] theorem tWrite_txf : (tWrite f s).txf = s.txf := rfl
@[simp] theorem tWrite_rb : (tWrite f s).rb = s.rb := rfl
@[simp] theorem tWrite_rxNeed : (tWrite f s).rxNeed = s.rxNeed := rfl
@[simp] theorem tWrite_pktErr : (tWrite f s).pktErr = s.pktErr := rfl
@[simp] theorem tWrite_nbaud : (tWrite f s).nbaud = s.nbaud := rfl
@[simp] theorem tWrite_npkt : (tWrite f s).npkt = s.npkt := rfl
@[simp] theorem tWrite_img : (tWrite f s).img = s.img := rfl
@[simp] theorem tWrite_rxFifo : (tWrite f s).rxFifo = s.rxFifo := rfl
@[simp] theorem tWrite_txLog : (tWrite f s).txLog = s.txLog ++ f.toList.map (fun x => (s.baudSel, x)) := rfl
@[simp] theorem tWrite_cfg : (tWrite f s).cfg = s.cfg := rfl
@[simp] theorem tWrite_agenda : (tWrite f s).agenda = s.agenda := rfl
@[simp] theorem tWrite_hostReg : (tWrite f s).hostReg = s.hostReg := rfl
@[simp] theorem tWrite_hostMem : (tWrite f s).hostMem = s.hostMem := rfl
@[simp] theorem tWrite_draws : (tWrite f s).draws = s.draws := rfl

end tWriteFields

section encodeCmdFields

variable (s : State)

@[simp] theorem encodeCmd_sstate : (encodeCmd s).sstate = s.sstate := rfl
@[simp] theorem encodeCmd_mstep : (encodeCmd s).mstep = s.mstep := rfl
@[simp] theorem encodeCmd_op : (encodeCmd s).op = s.op := rfl
@[simp] theorem encodeCmd_err : (encodeCmd s).err = s.err := rfl
@[simp] theorem encodeCmd_ctrl : (encodeCmd s).ctrl = s.ctrl := rfl
@[simp] theorem encodeCmd_baudSel : (encodeCmd s).baudSel = s.baudSel := rfl
@[simp] theorem encodeCmd_pktSel : (encodeCmd s).pktSel = s.pktSel := rfl
@[simp] theorem encodeCmd_timeout : (encodeCmd s).timeout = s.timeout := rfl
@[simp] theorem encodeCmd_linkOpen : (encodeCmd s).linkOpen = s.linkOpen := rfl
@[simp] theorem encodeCmd_capValid : (encodeCmd s).capValid = s.capValid := rfl
@[simp] theorem encodeCmd_totalBytes : (encodeCmd s).totalBytes = s.totalBytes := rfl
@[simp] theorem encodeCmd_packetCount : (encodeCmd s).packetCount = s.packetCount := rfl
@[simp] theorem encodeCmd_idx : (encodeCmd s).idx = s.idx := rfl
@[simp] theorem encodeCmd_bufLen : (encodeCmd s).bufLen = s.bufLen := rfl
@[simp] theorem encodeCmd_skipCount : (encodeCmd s).skipCount = s.skipCount := rfl
@[simp] theorem encodeCmd_ck : (encodeCmd s).ck = (frameOf s.opc s.p)[11] := rfl
@[simp] theorem encodeCmd_opc : (encodeCmd s).opc = s.opc := rfl
@[simp] theorem encodeCmd_p : (encodeCmd s).p = s.p := rfl
@[simp] theorem encodeCmd_txf : (encodeCmd s).txf = frameOf s.opc s.p := rfl
@[simp] theorem encodeCmd_rb : (encodeCmd s).rb = s.rb := rfl
@[simp] theorem encodeCmd_rxNeed : (encodeCmd s).rxNeed = s.rxNeed := rfl
@[simp] theorem encodeCmd_pktErr : (encodeCmd s).pktErr = s.pktErr := rfl
@[simp] theorem encodeCmd_nbaud : (encodeCmd s).nbaud = s.nbaud := rfl
@[simp] theorem encodeCmd_npkt : (encodeCmd s).npkt = s.npkt := rfl
@[simp] theorem encodeCmd_img : (encodeCmd s).img = s.img := rfl
@[simp] theorem encodeCmd_rxFifo : (encodeCmd s).rxFifo = s.rxFifo := rfl
@[simp] theorem encodeCmd_txLog : (encodeCmd s).txLog = s.txLog := rfl
@[simp] theorem encodeCmd_cfg : (encodeCmd s).cfg = s.cfg := rfl
@[simp] theorem encodeCmd_agenda : (encodeCmd s).agenda = s.agenda := rfl
@[simp] theorem encodeCmd_hostReg : (encodeCmd s).hostReg = s.hostReg := rfl
@[simp] theorem encodeCmd_hostMem : (encodeCmd s).hostMem = s.hostMem := rfl
@[simp] theorem encodeCmd_draws : (encodeCmd s).draws = s.draws := rfl

end encodeCmdFields

section latchFields

variable (k : WireCmd) (q : Params) (s : State)

@[simp] theorem latch_sstate : (latch k q s).sstate = s.sstate := rfl
@[simp] theorem latch_mstep : (latch k q s).mstep = s.mstep := rfl
@[simp] theorem latch_op : (latch k q s).op = s.op := rfl
@[simp] theorem latch_err : (latch k q s).err = s.err := rfl
@[simp] theorem latch_ctrl : (latch k q s).ctrl = s.ctrl := rfl
@[simp] theorem latch_baudSel : (latch k q s).baudSel = s.baudSel := rfl
@[simp] theorem latch_pktSel : (latch k q s).pktSel = s.pktSel := rfl
@[simp] theorem latch_timeout : (latch k q s).timeout = s.timeout := rfl
@[simp] theorem latch_linkOpen : (latch k q s).linkOpen = s.linkOpen := rfl
@[simp] theorem latch_capValid : (latch k q s).capValid = s.capValid := rfl
@[simp] theorem latch_totalBytes : (latch k q s).totalBytes = s.totalBytes := rfl
@[simp] theorem latch_packetCount : (latch k q s).packetCount = s.packetCount := rfl
@[simp] theorem latch_idx : (latch k q s).idx = s.idx := rfl
@[simp] theorem latch_bufLen : (latch k q s).bufLen = s.bufLen := rfl
@[simp] theorem latch_skipCount : (latch k q s).skipCount = s.skipCount := rfl
@[simp] theorem latch_ck : (latch k q s).ck = s.ck := rfl
@[simp] theorem latch_opc : (latch k q s).opc = s.cfg.opcode k := rfl
@[simp] theorem latch_p : (latch k q s).p = q := rfl
@[simp] theorem latch_txf : (latch k q s).txf = s.txf := rfl
@[simp] theorem latch_rb : (latch k q s).rb = s.rb := rfl
@[simp] theorem latch_rxNeed : (latch k q s).rxNeed = s.rxNeed := rfl
@[simp] theorem latch_pktErr : (latch k q s).pktErr = s.pktErr := rfl
@[simp] theorem latch_nbaud : (latch k q s).nbaud = s.nbaud := rfl
@[simp] theorem latch_npkt : (latch k q s).npkt = s.npkt := rfl
@[simp] theorem latch_img : (latch k q s).img = s.img := rfl
@[simp] theorem latch_rxFifo : (latch k q s).rxFifo = s.rxFifo := rfl
@[simp] theorem latch_txLog : (latch k q s).txLog = s.txLog := rfl
@[simp] theorem latch_cfg : (latch k q s).cfg = s.cfg := rfl
@[simp] theorem latch_agenda : (latch k q s).agenda = s.agenda := rfl
@[simp] theorem latch_hostReg : (latch k q s).hostReg = s.hostReg := rfl
@[simp] theorem latch_hostMem : (latch k q s).hostMem = s.hostMem := rfl
@[simp] theorem latch_draws : (latch k q s).draws = s.draws := rfl

end latchFields

section rejectFields

variable (k : ErrKind) (s : State)

@[simp] theorem reject_sstate : (reject k s).sstate = s.sstate := rfl
@[simp] theorem reject_mstep : (reject k s).mstep = s.mstep := rfl
@[simp] theorem reject_op : (reject k s).op = s.op := rfl
@[simp] theorem reject_err : (reject k s).err = k := rfl
@[simp] theorem reject_ctrl : (reject k s).ctrl = s.ctrl := rfl
@[simp] theorem reject_baudSel : (reject k s).baudSel = s.baudSel := rfl
@[simp] theorem reject_pktSel : (reject k s).pktSel = s.pktSel := rfl
@[simp] theorem reject_timeout : (reject k s).timeout = s.timeout := rfl
@[simp] theorem reject_linkOpen : (reject k s).linkOpen = s.linkOpen := rfl
@[simp] theorem reject_capValid : (reject k s).capValid = s.capValid := rfl
@[simp] theorem reject_totalBytes : (reject k s).totalBytes = s.totalBytes := rfl
@[simp] theorem reject_packetCount : (reject k s).packetCount = s.packetCount := rfl
@[simp] theorem reject_idx : (reject k s).idx = s.idx := rfl
@[simp] theorem reject_bufLen : (reject k s).bufLen = s.bufLen := rfl
@[simp] theorem reject_skipCount : (reject k s).skipCount = s.skipCount := rfl
@[simp] theorem reject_ck : (reject k s).ck = s.ck := rfl
@[simp] theorem reject_opc : (reject k s).opc = s.opc := rfl
@[simp] theorem reject_p : (reject k s).p = s.p := rfl
@[simp] theorem reject_txf : (reject k s).txf = s.txf := rfl
@[simp] theorem reject_rb : (reject k s).rb = s.rb := rfl
@[simp] theorem reject_rxNeed : (reject k s).rxNeed = s.rxNeed := rfl
@[simp] theorem reject_pktErr : (reject k s).pktErr = s.pktErr := rfl
@[simp] theorem reject_nbaud : (reject k s).nbaud = s.nbaud := rfl
@[simp] theorem reject_npkt : (reject k s).npkt = s.npkt := rfl
@[simp] theorem reject_img : (reject k s).img = s.img := rfl
@[simp] theorem reject_rxFifo : (reject k s).rxFifo = s.rxFifo := rfl
@[simp] theorem reject_txLog : (reject k s).txLog = s.txLog := rfl
@[simp] theorem reject_cfg : (reject k s).cfg = s.cfg := rfl
@[simp] theorem reject_agenda : (reject k s).agenda = s.agenda := rfl
@[simp] theorem reject_hostReg : (reject k s).hostReg = s.hostReg := rfl
@[simp] theorem reject_hostMem : (reject k s).hostMem = s.hostMem := rfl
@[simp] theorem reject_draws : (reject k s).draws = s.draws := rfl

end rejectFields

section disconnectFields

variable (s : State)

@[simp] theorem disconnect_sstate : (disconnect s).sstate = .disconnected := rfl
@[simp] theorem disconnect_mstep : (disconnect s).mstep = .idle := rfl
@[simp] theorem disconnect_op : (disconnect s).op = s.op := rfl
@[simp] theorem disconnect_err : (disconnect s).err = s.err := rfl
@[simp] theorem disconnect_ctrl : (disconnect s).ctrl = s.ctrl := rfl
@[simp] theorem disconnect_baudSel : (disconnect s).baudSel = s.baudSel := rfl
@[simp] theorem disconnect_pktSel : (disconnect s).pktSel = s.pktSel := rfl
@[simp] theorem disconnect_timeout : (disconnect s).timeout = s.timeout := rfl
@[simp] theorem disconnect_linkOpen : (disconnect s).linkOpen = s.linkOpen := rfl
@[simp] theorem disconnect_capValid : (disconnect s).capValid = false := rfl
@[simp] theorem disconnect_totalBytes : (disconnect s).totalBytes = s.totalBytes := rfl
@[simp] theorem disconnect_packetCount : (disconnect s).packetCount = s.packetCount := rfl
@[simp] theorem disconnect_idx : (disconnect s).idx = s.idx := rfl
@[simp] theorem disconnect_bufLen : (disconnect s).bufLen = s.bufLen := rfl
@[simp] theorem disconnect_skipCount : (disconnect s).skipCount = s.skipCount := rfl
@[simp] theorem disconnect_ck : (disconnect s).ck = s.ck := rfl
@[simp] theorem disconnect_opc : (disconnect s).opc = s.opc := rfl
@[simp] theorem disconnect_p : (disconnect s).p = s.p := rfl
@[simp] theorem disconnect_txf : (disconnect s).txf = s.txf := rfl
@[simp] theorem disconnect_rb : (disconnect s).rb = s.rb := rfl
@[simp] theorem disconnect_rxNeed : (disconnect s).rxNeed = s.rxNeed := rfl
@[simp] theorem disconnect_pktErr : (disconnect s).pktErr = s.pktErr := rfl
@[simp] theorem disconnect_nbaud : (disconnect s).nbaud = s.nbaud := rfl
@[simp] theorem disconnect_npkt : (disconnect s).npkt = s.npkt := rfl
@[simp] theorem disconnect_img : (disconnect s).img = s.img := rfl
@[simp] theorem disconnect_rxFifo : (disconnect s).rxFifo = s.rxFifo := rfl
@[simp] theorem disconnect_txLog : (disconnect s).txLog = s.txLog := rfl
@[simp] theorem disconnect_cfg : (disconnect s).cfg = s.cfg := rfl
@[simp] theorem disconnect_agenda : (disconnect s).agenda = s.agenda := rfl
@[simp] theorem disconnect_hostReg : (disconnect s).hostReg = s.hostReg := rfl
@[simp] theorem disconnect_hostMem : (disconnect s).hostMem = s.hostMem := rfl
@[simp] theorem disconnect_draws : (disconnect s).draws = s.draws := rfl

end disconnectFields

section abortFields

variable (k : ErrKind) (s : State)

@[simp] theorem abort_sstate : (abort k s).sstate = .disconnected := by simp [abort]
@[simp] theorem abort_mstep : (abort k s).mstep = .idle := by simp [abort]
@[simp] theorem abort_op : (abort k s).op = s.op := by simp [abort]
@[simp] theorem abort_err : (abort k s).err = k := by simp [abort]
@[simp] theorem abort_ctrl : (abort k s).ctrl = s.ctrl := by simp [abort]
@[simp] theorem abort_baudSel : (abort k s).baudSel = s.baudSel := by simp [abort]
@[simp] theorem abort_pktSel : (abort k s).pktSel = s.pktSel := by simp [abort]
@[simp] theorem abort_timeout : (abort k s).timeout = s.timeout := by simp [abort]
@[simp] theorem abort_linkOpen : (abort k s).linkOpen = false := by simp [abort]
@[simp] theorem abort_capValid : (abort k s).capValid = false := by simp [abort]
@[simp] theorem abort_totalBytes : (abort k s).totalBytes = s.totalBytes := by simp [abort]
@[simp] theorem abort_packetCount : (abort k s).packetCount = s.packetCount := by simp [abort]
@[simp] theorem abort_idx : (abort k s).idx = s.idx := by simp [abort]
@[simp] theorem abort_bufLen : (abort k s).bufLen = s.bufLen := by simp [abort]
@[simp] theorem abort_skipCount : (abort k s).skipCount = s.skipCount := by simp [abort]
@[simp] theorem abort_ck : (abort k s).ck = s.ck := by simp [abort]
@[simp] theorem abort_opc : (abort k s).opc = s.opc := by simp [abort]
@[simp] theorem abort_p : (abort k s).p = s.p := by simp [abort]
@[simp] theorem abort_txf : (abort k s).txf = s.txf := by simp [abort]
@[simp] theorem abort_rb : (abort k s).rb = s.rb := by simp [abort]
@[simp] theorem abort_rxNeed : (abort k s).rxNeed = s.rxNeed := by simp [abort]
@[simp] theorem abort_pktErr : (abort k s).pktErr = s.pktErr := by simp [abort]
@[simp] theorem abort_nbaud : (abort k s).nbaud = s.nbaud := by simp [abort]
@[simp] theorem abort_npkt : (abort k s).npkt = s.npkt := by simp [abort]
@[simp] theorem abort_img : (abort k s).img = s.img := by simp [abort]
@[simp] theorem abort_rxFifo : (abort k s).rxFifo = [] := by simp [abort]
@[simp] theorem abort_txLog : (abort k s).txLog = s.txLog := by simp [abort]
@[simp] theorem abort_cfg : (abort k s).cfg = s.cfg := by simp [abort]
@[simp] theorem abort_agenda : (abort k s).agenda = s.agenda := by simp [abort]
@[simp] theorem abort_hostReg : (abort k s).hostReg = s.hostReg := by simp [abort]
@[simp] theorem abort_hostMem : (abort k s).hostMem = s.hostMem := by simp [abort]
@[simp] theorem abort_draws : (abort k s).draws = s.draws := by simp [abort]

end abortFields

section writeTxfFields

variable (s : State)

@[simp] theorem writeTxf_sstate : (writeTxf s).sstate = s.sstate := rfl
@[simp] theorem writeTxf_mstep : (writeTxf s).mstep = s.mstep := rfl
@[simp] theorem writeTxf_op : (writeTxf s).op = s.op := rfl
@[simp] theorem writeTxf_err : (writeTxf s).err = s.err := rfl
@[simp] theorem writeTxf_ctrl : (writeTxf s).ctrl = s.ctrl := rfl
@[simp] theorem writeTxf_baudSel : (writeTxf s).baudSel = s.baudSel := rfl
@[simp] theorem writeTxf_pktSel : (writeTxf s).pktSel = s.pktSel := rfl
@[simp] theorem writeTxf_timeout : (writeTxf s).timeout = s.timeout := rfl
@[simp] theorem writeTxf_linkOpen : (writeTxf s).linkOpen = s.linkOpen := rfl
@[simp] theorem writeTxf_capValid : (writeTxf s).capValid = s.capValid := rfl
@[simp] theorem writeTxf_totalBytes : (writeTxf s).totalBytes = s.totalBytes := rfl
@[simp] theorem writeTxf_packetCount : (writeTxf s).packetCount = s.packetCount := rfl
@[simp] theorem writeTxf_idx : (writeTxf s).idx = s.idx := rfl
@[simp] theorem writeTxf_bufLen : (writeTxf s).bufLen = s.bufLen := rfl
@[simp] theorem writeTxf_skipCount : (writeTxf s).skipCount = s.skipCount := rfl
@[simp] theorem writeTxf_ck : (writeTxf s).ck = s.ck := rfl
@[simp] theorem writeTxf_opc : (writeTxf s).opc = s.opc := rfl
@[simp] theorem writeTxf_p : (writeTxf s).p = s.p := rfl
@[simp] theorem writeTxf_txf : (writeTxf s).txf = s.txf := rfl
@[simp] theorem writeTxf_rb : (writeTxf s).rb = s.rb := rfl
@[simp] theorem writeTxf_rxNeed : (writeTxf s).rxNeed = s.rxNeed := rfl
@[simp] theorem writeTxf_pktErr : (writeTxf s).pktErr = s.pktErr := rfl
@[simp] theorem writeTxf_nbaud : (writeTxf s).nbaud = s.nbaud := rfl
@[simp] theorem writeTxf_npkt : (writeTxf s).npkt = s.npkt := rfl
@[simp] theorem writeTxf_img : (writeTxf s).img = s.img := rfl
@[simp] theorem writeTxf_rxFifo : (writeTxf s).rxFifo = s.rxFifo := rfl
@[simp] theorem writeTxf_txLog : (writeTxf s).txLog = s.txLog ++ s.txf.toList.map (fun x => (s.baudSel, x)) := rfl
@[simp] theorem writeTxf_cfg : (writeTxf s).cfg = s.cfg := rfl
@[simp] theorem writeTxf_agenda : (writeTxf s).agenda = s.agenda := rfl
@[simp] theorem writeTxf_hostReg : (writeTxf s).hostReg = s.hostReg := rfl
@[simp] theorem writeTxf_hostMem : (writeTxf s).hostMem = s.hostMem := rfl
@[simp] theorem writeTxf_draws : (writeTxf s).draws = s.draws := rfl

end writeTxfFields

section awaitReplyFields

variable (n : BitVec 12) (s : State)

@[simp] theorem awaitReply_sstate : (awaitReply n s).sstate = s.sstate := rfl
@[simp] theorem awaitReply_mstep : (awaitReply n s).mstep = .rx := rfl
@[simp] theorem awaitReply_op : (awaitReply n s).op = s.op := rfl
@[simp] theorem awaitReply_err : (awaitReply n s).err = s.err := rfl
@[simp] theorem awaitReply_ctrl : (awaitReply n s).ctrl = s.ctrl := rfl
@[simp] theorem awaitReply_baudSel : (awaitReply n s).baudSel = s.baudSel := rfl
@[simp] theorem awaitReply_pktSel : (awaitReply n s).pktSel = s.pktSel := rfl
@[simp] theorem awaitReply_timeout : (awaitReply n s).timeout = s.timeout := rfl
@[simp] theorem awaitReply_linkOpen : (awaitReply n s).linkOpen = s.linkOpen := rfl
@[simp] theorem awaitReply_capValid : (awaitReply n s).capValid = s.capValid := rfl
@[simp] theorem awaitReply_totalBytes : (awaitReply n s).totalBytes = s.totalBytes := rfl
@[simp] theorem awaitReply_packetCount : (awaitReply n s).packetCount = s.packetCount := rfl
@[simp] theorem awaitReply_idx : (awaitReply n s).idx = s.idx := rfl
@[simp] theorem awaitReply_bufLen : (awaitReply n s).bufLen = s.bufLen := rfl
@[simp] theorem awaitReply_skipCount : (awaitReply n s).skipCount = s.skipCount := rfl
@[simp] theorem awaitReply_ck : (awaitReply n s).ck = s.ck := rfl
@[simp] theorem awaitReply_opc : (awaitReply n s).opc = s.opc := rfl
@[simp] theorem awaitReply_p : (awaitReply n s).p = s.p := rfl
@[simp] theorem awaitReply_txf : (awaitReply n s).txf = s.txf := rfl
@[simp] theorem awaitReply_rb : (awaitReply n s).rb = s.rb := rfl
@[simp] theorem awaitReply_rxNeed : (awaitReply n s).rxNeed = n := rfl
@[simp] theorem awaitReply_pktErr : (awaitReply n s).pktErr = s.pktErr := rfl
@[simp] theorem awaitReply_nbaud : (awaitReply n s).nbaud = s.nbaud := rfl
@[simp] theorem awaitReply_npkt : (awaitReply n s).npkt = s.npkt := rfl
@[simp] theorem awaitReply_img : (awaitReply n s).img = s.img := rfl
@[simp] theorem awaitReply_rxFifo : (awaitReply n s).rxFifo = s.rxFifo := rfl
@[simp] theorem awaitReply_txLog : (awaitReply n s).txLog = s.txLog := rfl
@[simp] theorem awaitReply_cfg : (awaitReply n s).cfg = s.cfg := rfl
@[simp] theorem awaitReply_agenda : (awaitReply n s).agenda = s.agenda := rfl
@[simp] theorem awaitReply_hostReg : (awaitReply n s).hostReg = s.hostReg := rfl
@[simp] theorem awaitReply_hostMem : (awaitReply n s).hostMem = s.hostMem := rfl
@[simp] theorem awaitReply_draws : (awaitReply n s).draws = s.draws := rfl

end awaitReplyFields

section cmdTxFields

variable (s : State)

@[simp] theorem cmdTx_sstate : (cmdTx s).sstate = s.sstate := by simp [cmdTx]
@[simp] theorem cmdTx_mstep : (cmdTx s).mstep = .rx := by simp [cmdTx]
@[simp] theorem cmdTx_op : (cmdTx s).op = s.op := by simp [cmdTx]
@[simp] theorem cmdTx_err : (cmdTx s).err = s.err := by simp [cmdTx]
@[simp] theorem cmdTx_ctrl : (cmdTx s).ctrl = s.ctrl := by simp [cmdTx]
@[simp] theorem cmdTx_baudSel : (cmdTx s).baudSel = s.baudSel := by simp [cmdTx]
@[simp] theorem cmdTx_pktSel : (cmdTx s).pktSel = s.pktSel := by simp [cmdTx]
@[simp] theorem cmdTx_timeout : (cmdTx s).timeout = s.timeout := by simp [cmdTx]
@[simp] theorem cmdTx_linkOpen : (cmdTx s).linkOpen = s.linkOpen := by simp [cmdTx]
@[simp] theorem cmdTx_capValid : (cmdTx s).capValid = s.capValid := by simp [cmdTx]
@[simp] theorem cmdTx_totalBytes : (cmdTx s).totalBytes = s.totalBytes := by simp [cmdTx]
@[simp] theorem cmdTx_packetCount : (cmdTx s).packetCount = s.packetCount := by simp [cmdTx]
@[simp] theorem cmdTx_idx : (cmdTx s).idx = s.idx := by simp [cmdTx]
@[simp] theorem cmdTx_bufLen : (cmdTx s).bufLen = s.bufLen := by simp [cmdTx]
@[simp] theorem cmdTx_skipCount : (cmdTx s).skipCount = s.skipCount := by simp [cmdTx]
@[simp] theorem cmdTx_ck : (cmdTx s).ck = (frameOf s.opc s.p)[11] := by simp [cmdTx]
@[simp] theorem cmdTx_opc : (cmdTx s).opc = s.opc := by simp [cmdTx]
@[simp] theorem cmdTx_p : (cmdTx s).p = s.p := by simp [cmdTx]
@[simp] theorem cmdTx_txf : (cmdTx s).txf = frameOf s.opc s.p := by simp [cmdTx]
@[simp] theorem cmdTx_rb : (cmdTx s).rb = s.rb := by simp [cmdTx]
@[simp] theorem cmdTx_rxNeed : (cmdTx s).rxNeed = 13 := by simp [cmdTx]
@[simp] theorem cmdTx_pktErr : (cmdTx s).pktErr = s.pktErr := by simp [cmdTx]
@[simp] theorem cmdTx_nbaud : (cmdTx s).nbaud = s.nbaud := by simp [cmdTx]
@[simp] theorem cmdTx_npkt : (cmdTx s).npkt = s.npkt := by simp [cmdTx]
@[simp] theorem cmdTx_img : (cmdTx s).img = s.img := by simp [cmdTx]
@[simp] theorem cmdTx_rxFifo : (cmdTx s).rxFifo = s.rxFifo := by simp [cmdTx]
@[simp] theorem cmdTx_txLog : (cmdTx s).txLog = s.txLog ++ (frameOf s.opc s.p).toList.map (fun x => (s.baudSel, x)) := by simp [cmdTx]
@[simp] theorem cmdTx_cfg : (cmdTx s).cfg = s.cfg := by simp [cmdTx]
@[simp] theorem cmdTx_agenda : (cmdTx s).agenda = s.agenda := by simp [cmdTx]
@[simp] theorem cmdTx_hostReg : (cmdTx s).hostReg = s.hostReg := by simp [cmdTx]
@[simp] theorem cmdTx_hostMem : (cmdTx s).hostMem = s.hostMem := by simp [cmdTx]
@[simp] theorem cmdTx_draws : (cmdTx s).draws = s.draws := by simp [cmdTx]

end cmdTxFields

section commitCaptureFields

variable (t : BitVec 24) (n : BitVec 16) (s : State)

@[simp] theorem commitCapture_sstate : (commitCapture t n s).sstate = .ready := rfl
@[simp] theorem commitCapture_mstep : (commitCapture t n s).mstep = .idle := rfl
@[simp] theorem commitCapture_op : (commitCapture t n s).op = s.op := rfl
@[simp] theorem commitCapture_err : (commitCapture t n s).err = s.err := rfl
@[simp] theorem commitCapture_ctrl : (commitCapture t n s).ctrl = s.ctrl := rfl
@[simp] theorem commitCapture_baudSel : (commitCapture t n s).baudSel = s.baudSel := rfl
@[simp] theorem commitCapture_pktSel : (commitCapture t n s).pktSel = s.pktSel := rfl
@[simp] theorem commitCapture_timeout : (commitCapture t n s).timeout = s.timeout := rfl
@[simp] theorem commitCapture_linkOpen : (commitCapture t n s).linkOpen = s.linkOpen := rfl
@[simp] theorem commitCapture_capValid : (commitCapture t n s).capValid = true := rfl
@[simp] theorem commitCapture_totalBytes : (commitCapture t n s).totalBytes = t := rfl
@[simp] theorem commitCapture_packetCount : (commitCapture t n s).packetCount = n := rfl
@[simp] theorem commitCapture_idx : (commitCapture t n s).idx = s.idx := rfl
@[simp] theorem commitCapture_bufLen : (commitCapture t n s).bufLen = s.bufLen := rfl
@[simp] theorem commitCapture_skipCount : (commitCapture t n s).skipCount = s.skipCount := rfl
@[simp] theorem commitCapture_ck : (commitCapture t n s).ck = s.ck := rfl
@[simp] theorem commitCapture_opc : (commitCapture t n s).opc = s.opc := rfl
@[simp] theorem commitCapture_p : (commitCapture t n s).p = s.p := rfl
@[simp] theorem commitCapture_txf : (commitCapture t n s).txf = s.txf := rfl
@[simp] theorem commitCapture_rb : (commitCapture t n s).rb = s.rb := rfl
@[simp] theorem commitCapture_rxNeed : (commitCapture t n s).rxNeed = s.rxNeed := rfl
@[simp] theorem commitCapture_pktErr : (commitCapture t n s).pktErr = s.pktErr := rfl
@[simp] theorem commitCapture_nbaud : (commitCapture t n s).nbaud = s.nbaud := rfl
@[simp] theorem commitCapture_npkt : (commitCapture t n s).npkt = s.npkt := rfl
@[simp] theorem commitCapture_img : (commitCapture t n s).img = s.img := rfl
@[simp] theorem commitCapture_rxFifo : (commitCapture t n s).rxFifo = s.rxFifo := rfl
@[simp] theorem commitCapture_txLog : (commitCapture t n s).txLog = s.txLog := rfl
@[simp] theorem commitCapture_cfg : (commitCapture t n s).cfg = s.cfg := rfl
@[simp] theorem commitCapture_agenda : (commitCapture t n s).agenda = s.agenda := rfl
@[simp] theorem commitCapture_hostReg : (commitCapture t n s).hostReg = s.hostReg := rfl
@[simp] theorem commitCapture_hostMem : (commitCapture t n s).hostMem = s.hostMem := rfl
@[simp] theorem commitCapture_draws : (commitCapture t n s).draws = s.draws := rfl

end commitCaptureFields

section skipFields

variable (k : ErrKind) (s : State)

@[simp] theorem skip_sstate : (skip k s).sstate = s.sstate := rfl
@[simp] theorem skip_mstep : (skip k s).mstep = s.mstep := rfl
@[simp] theorem skip_op : (skip k s).op = s.op := rfl
@[simp] theorem skip_err : (skip k s).err = s.err := rfl
@[simp] theorem skip_ctrl : (skip k s).ctrl = s.ctrl := rfl
@[simp] theorem skip_baudSel : (skip k s).baudSel = s.baudSel := rfl
@[simp] theorem skip_pktSel : (skip k s).pktSel = s.pktSel := rfl
@[simp] theorem skip_timeout : (skip k s).timeout = s.timeout := rfl
@[simp] theorem skip_linkOpen : (skip k s).linkOpen = s.linkOpen := rfl
@[simp] theorem skip_capValid : (skip k s).capValid = s.capValid := rfl
@[simp] theorem skip_totalBytes : (skip k s).totalBytes = s.totalBytes := rfl
@[simp] theorem skip_packetCount : (skip k s).packetCount = s.packetCount := rfl
@[simp] theorem skip_idx : (skip k s).idx = s.idx := rfl
@[simp] theorem skip_bufLen : (skip k s).bufLen = s.bufLen := rfl
@[simp] theorem skip_skipCount : (skip k s).skipCount = s.skipCount + 1 := rfl
@[simp] theorem skip_ck : (skip k s).ck = s.ck := rfl
@[simp] theorem skip_opc : (skip k s).opc = s.opc := rfl
@[simp] theorem skip_p : (skip k s).p = s.p := rfl
@[simp] theorem skip_txf : (skip k s).txf = s.txf := rfl
@[simp] theorem skip_rb : (skip k s).rb = s.rb := rfl
@[simp] theorem skip_rxNeed : (skip k s).rxNeed = s.rxNeed := rfl
@[simp] theorem skip_pktErr : (skip k s).pktErr = k := rfl
@[simp] theorem skip_nbaud : (skip k s).nbaud = s.nbaud := rfl
@[simp] theorem skip_npkt : (skip k s).npkt = s.npkt := rfl
@[simp] theorem skip_img : (skip k s).img = s.img := rfl
@[simp] theorem skip_rxFifo : (skip k s).rxFifo = s.rxFifo := rfl
@[simp] theorem skip_txLog : (skip k s).txLog = s.txLog := rfl
@[simp] theorem skip_cfg : (skip k s).cfg = s.cfg := rfl
@[simp] theorem skip_agenda : (skip k s).agenda = s.agenda := rfl
@[simp] theorem skip_hostReg : (skip k s).hostReg = s.hostReg := rfl
@[simp] theorem skip_hostMem : (skip k s).hostMem = s.hostMem := rfl
@[simp] theorem skip_draws : (skip k s).draws = s.draws := rfl

end skipFields

section appendFields

variable (d : List Byte) (s : State)

@[simp] theorem append_sstate : (append d s).sstate = s.sstate := rfl
@[simp] theorem append_mstep : (append d s).mstep = s.mstep := rfl
@[simp] theorem append_op : (append d s).op = s.op := rfl
@[simp] theorem append_err : (append d s).err = s.err := rfl
@[simp] theorem append_ctrl : (append d s).ctrl = s.ctrl := rfl
@[simp] theorem append_baudSel : (append d s).baudSel = s.baudSel := rfl
@[simp] theorem append_pktSel : (append d s).pktSel = s.pktSel := rfl
@[simp] theorem append_timeout : (append d s).timeout = s.timeout := rfl
@[simp] theorem append_linkOpen : (append d s).linkOpen = s.linkOpen := rfl
@[simp] theorem append_capValid : (append d s).capValid = s.capValid := rfl
@[simp] theorem append_totalBytes : (append d s).totalBytes = s.totalBytes := rfl
@[simp] theorem append_packetCount : (append d s).packetCount = s.packetCount := rfl
@[simp] theorem append_idx : (append d s).idx = s.idx := rfl
@[simp] theorem append_bufLen : (append d s).bufLen = s.bufLen + BitVec.ofNat 27 d.length := rfl
@[simp] theorem append_skipCount : (append d s).skipCount = s.skipCount := rfl
@[simp] theorem append_ck : (append d s).ck = s.ck := rfl
@[simp] theorem append_opc : (append d s).opc = s.opc := rfl
@[simp] theorem append_p : (append d s).p = s.p := rfl
@[simp] theorem append_txf : (append d s).txf = s.txf := rfl
@[simp] theorem append_rb : (append d s).rb = s.rb := rfl
@[simp] theorem append_rxNeed : (append d s).rxNeed = s.rxNeed := rfl
@[simp] theorem append_pktErr : (append d s).pktErr = s.pktErr := rfl
@[simp] theorem append_nbaud : (append d s).nbaud = s.nbaud := rfl
@[simp] theorem append_npkt : (append d s).npkt = s.npkt := rfl
@[simp] theorem append_img : (append d s).img = s.img.write s.bufLen.toNat d := rfl
@[simp] theorem append_rxFifo : (append d s).rxFifo = s.rxFifo := rfl
@[simp] theorem append_txLog : (append d s).txLog = s.txLog := rfl
@[simp] theorem append_cfg : (append d s).cfg = s.cfg := rfl
@[simp] theorem append_agenda : (append d s).agenda = s.agenda := rfl
@[simp] theorem append_hostReg : (append d s).hostReg = s.hostReg := rfl
@[simp] theorem append_hostMem : (append d s).hostMem = s.hostMem := rfl
@[simp] theorem append_draws : (append d s).draws = s.draws := rfl

end appendFields

section upTxFields

variable (i n : BitVec 16) (s : State)

@[simp] theorem upTx_sstate : (upTx i n s).sstate = s.sstate := by simp [upTx]
@[simp] theorem upTx_mstep : (upTx i n s).mstep = .rx := by simp [upTx]
@[simp] theorem upTx_op : (upTx i n s).op = s.op := by simp [upTx]
@[simp] theorem upTx_err : (upTx i n s).err = s.err := by simp [upTx]
@[simp] theorem upTx_ctrl : (upTx i n s).ctrl = s.ctrl := by simp [upTx]
@[simp] theorem upTx_baudSel : (upTx i n s).baudSel = s.baudSel := by simp [upTx]
@[simp] theorem upTx_pktSel : (upTx i n s).pktSel = s.pktSel := by simp [upTx]
@[simp] theorem upTx_timeout : (upTx i n s).timeout = s.timeout := by simp [upTx]
@[simp] theorem upTx_linkOpen : (upTx i n s).linkOpen = s.linkOpen := by simp [upTx]
@[simp] theorem upTx_capValid : (upTx i n s).capValid = s.capValid := by simp [upTx]
@[simp] theorem upTx_totalBytes : (upTx i n s).totalBytes = s.totalBytes := by simp [upTx]
@[simp] theorem upTx_packetCount : (upTx i n s).packetCount = s.packetCount := by simp [upTx]
@[simp] theorem upTx_idx : (upTx i n s).idx = s.idx := by simp [upTx]
@[simp] theorem upTx_bufLen : (upTx i n s).bufLen = s.bufLen := by simp [upTx]
@[simp] theorem upTx_skipCount : (upTx i n s).skipCount = s.skipCount := by simp [upTx]
@[simp] theorem upTx_ck : (upTx i n s).ck = (frameOf (s.cfg.opcode .upload) (paramsUpload i n))[11] := by simp [upTx]
@[simp] theorem upTx_opc : (upTx i n s).opc = s.cfg.opcode .upload := by simp [upTx]
@[simp] theorem upTx_p : (upTx i n s).p = paramsUpload i n := by simp [upTx]
@[simp] theorem upTx_txf : (upTx i n s).txf = frameOf (s.cfg.opcode .upload) (paramsUpload i n) := by simp [upTx]
@[simp] theorem upTx_rb : (upTx i n s).rb = s.rb := by simp [upTx]
@[simp] theorem upTx_rxNeed : (upTx i n s).rxNeed = BitVec.ofNat 12 (13 + expectedLength s i) := by simp [upTx]
@[simp] theorem upTx_pktErr : (upTx i n s).pktErr = s.pktErr := by simp [upTx]
@[simp] theorem upTx_nbaud : (upTx i n s).nbaud = s.nbaud := by simp [upTx]
@[simp] theorem upTx_npkt : (upTx i n s).npkt = s.npkt := by simp [upTx]
@[simp] theorem upTx_img : (upTx i n s).img = s.img := by simp [upTx]
@[simp] theorem upTx_rxFifo : (upTx i n s).rxFifo = s.rxFifo := by simp [upTx]
@[simp] theorem upTx_txLog : (upTx i n s).txLog = s.txLog ++ (frameOf (s.cfg.opcode .upload) (paramsUpload i n)).toList.map (fun x => (s.baudSel, x)) := by simp [upTx]
@[simp] theorem upTx_cfg : (upTx i n s).cfg = s.cfg := by simp [upTx]
@[simp] theorem upTx_agenda : (upTx i n s).agenda = s.agenda := by simp [upTx]
@[simp] theorem upTx_hostReg : (upTx i n s).hostReg = s.hostReg := by simp [upTx]
@[simp] theorem upTx_hostMem : (upTx i n s).hostMem = s.hostMem := by simp [upTx]
@[simp] theorem upTx_draws : (upTx i n s).draws = s.draws := by simp [upTx]

end upTxFields

end Sys2Proof.Machine
end

