-- ==== Sys2Proof/Laws/Ops.lean ====
section
/-! SUPPORT. For each shared operation, once, everything it can do: later proofs cite these and do not unfold it. -/

namespace Sys2Proof.Machine

/-- Everything ISSUE can do (rule R170). -/
theorem issue_cases (o : Op) (r : Bool) (e : State → State) (s : State) :
    (s.mstep ≠ .idle ∧ issue o r e s = s) ∨
    (s.mstep = .idle ∧ legal o s.sstate s.capValid = false ∧ issue o r e s = reject .state s) ∨
    (s.mstep = .idle ∧ legal o s.sstate s.capValid = true ∧ r = false ∧ issue o r e s = reject .param s) ∨
    (s.mstep = .idle ∧ legal o s.sstate s.capValid = true ∧ r = true ∧
      issue o r e s = e { s with err := .ok, op := o }) := by
  unfold issue busy
  by_cases h1 : s.mstep = .idle
  · cases h2 : legal o s.sstate s.capValid
    · simp [h1]
    · cases r
      · simp [h1]
      · simp [h1]
  · simp [h1]

/-- A read completes exactly when enough bytes are queued, and takes the oldest ones (rule R256). -/
theorem tReadExact_eq_some {n : Nat} {s s1 : State} {v : List Byte} :
    tReadExact n s = some (v, s1) ↔
      n ≤ s.rxFifo.length ∧ v = s.rxFifo.take n ∧ s1 = { s with rxFifo := s.rxFifo.drop n } := by
  unfold tReadExact
  split <;> rename_i h
  · simp only [Option.some.injEq, Prod.mk.injEq, h, true_and]
    exact ⟨fun ⟨a, b⟩ => ⟨a.symm, b.symm⟩, fun ⟨a, b⟩ => ⟨a.symm, b.symm⟩⟩
  · simp [h]

theorem tReadExact_eq_none {n : Nat} {s : State} : tReadExact n s = none ↔ s.rxFifo.length < n := by
  unfold tReadExact
  split <;> simp <;> omega

@[simp] theorem decodeFrame_fst (v : List Byte) (n : Nat) (s : State) :
    (decodeFrame v n s).1 = replyCheck (rxck s) v n := rfl

@[simp] theorem decodeFrame_snd (v : List Byte) (n : Nat) (s : State) :
    (decodeFrame v n s).2 = { s with ck := replyCk (rxck s) v n s.ck } := rfl

/-- The state in which a reply is judged: `RB` holds its envelope and `CK` what DECODE leaves (rules R31, R33). -/
def received (v : List Byte) (n : Nat) (s : State) : State :=
  { s with rb := envelope v, ck := replyCk (rxck s) v n s.ck }

/-- Everything CMD_RX can do with the bytes it has read (rule R173, rule R202). -/
theorem cmdRx_cases (v : List Byte) (s : State) :
    (∃ k, replyCheck (rxck s) v 13 = .error k ∧ cmdRx v s = .next (abort k (received v 13 s))) ∨
    (∃ r, replyCheck (rxck s) v 13 = .ok r ∧
      ((s.op = .capture ∧
          ((∃ k, decodeCapture v = .error k ∧ cmdRx v s = .next (abort k (received v 13 s))) ∨
           (∃ t n, decodeCapture v = .ok (t, n) ∧ cmdRx v s = .next (commitCapture t n (received v 13 s))))) ∨
       (s.op ≠ .capture ∧
          ((∃ k, statusCheck r.status = .error k ∧ cmdRx v s = .next (abort k (received v 13 s))) ∨
           (statusCheck r.status = .ok () ∧ cmdRx v s = commit (received v 13 s)))))) := by
  have hd : decodeFrame v 13 { s with rb := envelope v } = (replyCheck (rxck s) v 13, received v 13 s) := rfl
  unfold cmdRx
  rw [hd]
  cases hc : replyCheck (rxck s) v 13 with
  | error k => exact .inl ⟨k, rfl, rfl⟩
  | ok r =>
    refine .inr ⟨r, rfl, ?_⟩
    have ho : (received v 13 s).op = s.op := rfl
    by_cases hop : s.op = .capture
    · refine .inl ⟨hop, ?_⟩
      simp only [ho, hop, if_true]
      cases hcap : decodeCapture v with
      | error k => exact .inl ⟨k, rfl, rfl⟩
      | ok p => exact .inr ⟨p.1, p.2, rfl, rfl⟩
    · refine .inr ⟨hop, ?_⟩
      simp only [ho, hop, if_false]
      cases hst : statusCheck r.status with
      | error k => exact .inl ⟨k, rfl, rfl⟩
      | ok u => exact .inr ⟨rfl, rfl⟩

/-- Everything UP_RX can do with the bytes it has read (rule R226). -/
theorem upRx_cases (v : List Byte) (s : State) :
    (∃ k, replyCheck (rxck s) v s.rxNeed.toNat = .error k ∧
      upRx v s = advance (skip k (received v s.rxNeed.toNat s))) ∨
    (∃ r, replyCheck (rxck s) v s.rxNeed.toNat = .ok r ∧
      ((∃ k, statusCheck r.status = .error k ∧ upRx v s = advance (skip k (received v s.rxNeed.toNat s))) ∨
       (statusCheck r.status = .ok () ∧
          upRx v s =
            advance (append ((v.drop 11).take (s.rxNeed.toNat - 13)) (received v s.rxNeed.toNat s))))) := by
  have hd : decodeFrame v s.rxNeed.toNat { s with rb := envelope v } =
      (replyCheck (rxck s) v s.rxNeed.toNat, received v s.rxNeed.toNat s) := rfl
  unfold upRx
  rw [hd]
  cases hc : replyCheck (rxck s) v s.rxNeed.toNat with
  | error k => exact .inl ⟨k, rfl, rfl⟩
  | ok r =>
    refine .inr ⟨r, rfl, ?_⟩
    cases hst : statusCheck r.status with
    | error k => exact .inl ⟨k, rfl, by simp [hst]⟩
    | ok u => exact .inr ⟨rfl, by simp [hst]⟩

/-- Everything a commit can do (rules R184, R191, R196, R211). -/
theorem commit_cases (s : State) :
    ((s.op = .configure ∨ s.op = .reset) ∧ commit s = .next { s with pktSel := s.npkt, mstep := .switch }) ∨
    (s.op = .getversion ∧ commit s = .next { s with mstep := .idle }) ∨
    (s.op = .autofocus ∧ commit s = .next { s with sstate := .ready, mstep := .idle }) ∨
    ((s.op = .none ∨ s.op = .openOp ∨ s.op = .closeOp ∨ s.op = .capture ∨ s.op = .upload) ∧
      commit s = .fault .noCommitRule) := by
  unfold commit
  cases h : s.op <;> simp

/-- Everything NEXT can do (rule R231). -/
theorem advance_cases (s : State) :
    (s.idx = s.packetCount ∧
      advance s = { s with err := completionErr s.bufLen s.totalBytes, sstate := .ready, mstep := .idle }) ∨
    (s.idx ≠ s.packetCount ∧ advance s = { s with idx := s.idx + 1, mstep := .tx }) := by
  unfold advance
  by_cases h : s.idx = s.packetCount <;> simp [h]

/-- Everything the SWITCH step can do (rule R185, rule R259). -/
theorem switchStep_cases (s : State) :
    (s.rxFifo ≠ [] ∧ switchStep s = abort .order s) ∨
    (s.rxFifo = [] ∧ switchStep s = { s with baudSel := s.nbaud, sstate := .ready, mstep := .idle }) := by
  unfold switchStep tSetBaud
  by_cases h : s.rxFifo = [] <;> simp [h]

/-- Everything a timed-out read can do (rules R174, R229). -/
theorem rxTimeout_cases (s : State) :
    (s.sstate = .uploading ∧ rxTimeout s = advance (skip .timeout (tReadTimeout s))) ∨
    (s.sstate ≠ .uploading ∧ rxTimeout s = abort .timeout (tReadTimeout s)) := by
  unfold rxTimeout
  by_cases h : s.sstate = .uploading <;> simp [h]

/-- Everything UPLOAD's issue can do (rules R221, R222). -/
theorem uploadIssue_cases (s : State) :
    (s.packetCount = 0 ∧ uploadIssue s =
      { s with bufLen := 0, img := [], skipCount := 0, pktErr := .ok, idx := 0, err := completionErr 0 s.totalBytes }) ∨
    (s.packetCount ≠ 0 ∧ uploadIssue s =
      { s with bufLen := 0, img := [], skipCount := 0, pktErr := .ok, idx := 1, sstate := .uploading, mstep := .tx }) := by
  unfold uploadIssue
  by_cases h : s.packetCount = 0
  · exact .inl ⟨h, if_pos h⟩
  · exact .inr ⟨h, if_neg h⟩

/-- Everything the transmission of a command frame can do (rule R172). -/
theorem sendCommand_cases (k : WireCmd) (q : Params) (s : State) :
    ((s.mstep = .tx ∧ s.sstate ≠ .uploading ∧ wireOf s.op = some k) ∧ sendCommand k q s = cmdTx (latch k q s)) ∨
    (¬ (s.mstep = .tx ∧ s.sstate ≠ .uploading ∧ wireOf s.op = some k) ∧ sendCommand k q s = s) := by
  unfold sendCommand
  by_cases h : s.mstep = .tx ∧ s.sstate ≠ .uploading ∧ wireOf s.op = some k
  · exact .inl ⟨h, if_pos h⟩
  · exact .inr ⟨h, if_neg h⟩

/-- Everything DEV can do (rules R262, R263). -/
theorem devSend_cases (x : Byte) (s : State) :
    (s.linkOpen = true ∧ devSend x s = { s with rxFifo := s.rxFifo ++ [x] }) ∨
    (s.linkOpen = false ∧ devSend x s = s) := by
  unfold devSend
  cases h : s.linkOpen <;> simp

/-- Everything a write of `ctrl` can do (rule R38). -/
theorem writeCtrl_cases (x : BitVec 32) (s : State) :
    (s.mstep ≠ .idle ∧ writeCtrl x s = s) ∨
    (s.mstep = .idle ∧ writeCtrl x s = { s with ctrl := x.extractLsb' 0 1 }) := by
  unfold writeCtrl busy
  by_cases h : s.mstep = .idle <;> simp [h]

end Sys2Proof.Machine
end

