-- ==== Sys2Proof/Laws/PerInstr.lean ====
section
/-! SUPPORT. The families of per-instruction laws: one lemma per row of the opcode table. -/

namespace Sys2Proof.Laws

/-- How many bits a word or a frame has. -/
def codeBits : Code → Nat
  | .hcw _ => 40
  | .command _ f => 8 * f.length
  | .reply f => 8 * f.length

/-- How many bits the formats of spec/30_encoding.md give a row: HCW 40 (rule R104), CMD13 and RSP13 thirteen bytes
(rules R101, R102), RSPUP 13 + L bytes (rule R103), SEC.FRAME four bytes and its parameters (rule R281). -/
def rowBits : Instr → Nat
  | .openOp _ _ => 40
  | .closeOp => 40
  | .configure _ _ => 40
  | .getversion => 40
  | .autofocus _ _ => 40
  | .capture _ _ _ _ => 40
  | .upload => 40
  | .reset => 40
  | .hcwReserved _ => 40
  | .wConfig _ _ => 104
  | .wGetversion => 104
  | .wAutofocus _ _ => 104
  | .wCapture _ _ _ _ => 104
  | .wUpload _ _ => 104
  | .rsp13 _ _ _ => 104
  | .rspup _ _ payload _ => 8 * (13 + payload.length)
  | .secFrame _ _ params => 8 * (4 + params.length)

/-- The encoder writes as many bits as the instruction's format has, under every configuration. -/
def EncodeWidth.Statement (i : Instr) : Prop := ∀ c : Cfg, codeBits (encode c i) = rowBits i

theorem EncodeWidth.openOp (b : BitVec 3) (t : BitVec 32) : EncodeWidth.Statement (.openOp b t) := fun _ => rfl
theorem EncodeWidth.closeOp : EncodeWidth.Statement .closeOp := fun _ => rfl
theorem EncodeWidth.configure (b : BitVec 3) (z : BitVec 2) : EncodeWidth.Statement (.configure b z) := fun _ => rfl
theorem EncodeWidth.getversion : EncodeWidth.Statement .getversion := fun _ => rfl
theorem EncodeWidth.autofocus (m : BitVec 2) (v : BitVec 16) : EncodeWidth.Statement (.autofocus m v) := fun _ => rfl
theorem EncodeWidth.capture (r c f e : Byte) : EncodeWidth.Statement (.capture r c f e) := fun _ => rfl
theorem EncodeWidth.upload : EncodeWidth.Statement .upload := fun _ => rfl
theorem EncodeWidth.reset : EncodeWidth.Statement .reset := fun _ => rfl
theorem EncodeWidth.hcwReserved (code : BitVec 4) : EncodeWidth.Statement (.hcwReserved code) := fun _ => rfl
theorem EncodeWidth.wConfig (b : BitVec 3) (z : BitVec 2) : EncodeWidth.Statement (.wConfig b z) := fun _ => rfl
theorem EncodeWidth.wGetversion : EncodeWidth.Statement .wGetversion := fun _ => rfl
theorem EncodeWidth.wAutofocus (code : Byte) (v : BitVec 16) : EncodeWidth.Statement (.wAutofocus code v) := fun _ => rfl
theorem EncodeWidth.wCapture (r c f e : Byte) : EncodeWidth.Statement (.wCapture r c f e) := fun _ => rfl
theorem EncodeWidth.wUpload (k n : BitVec 16) : EncodeWidth.Statement (.wUpload k n) := fun _ => rfl

theorem EncodeWidth.rsp13 (status : Byte) (body : Params) (ck : Byte) :
    EncodeWidth.Statement (.rsp13 status body ck) := by
  intro c
  simp [codeBits, rowBits, encode, rsp13Bytes, frameHeader]

theorem EncodeWidth.rspup (status : Byte) (env : Params) (payload : List Byte) (ck : Byte) :
    EncodeWidth.Statement (.rspup status env payload ck) := by
  intro c
  simp [codeBits, rowBits, encode, rspupBytes, frameHeader]
  omega

theorem EncodeWidth.secFrame (opcode len : Byte) (params : List Byte) :
    EncodeWidth.Statement (.secFrame opcode len params) := by
  intro c
  simp [codeBits, rowBits, encode, secFrameBytes]
  omega

end Sys2Proof.Laws
end

