-- ==== Sys2Proof/Tests/Slice0.lean ====
section
/-! SUPPORT. The package's own tests. Expected values are copied from spec/95_test_vectors.md (named in each comment) or
worked out by hand from the cited rule; `witness_…` theorems show that the hypotheses of a statement can be met. -/

namespace Sys2Proof.Tests

open Sys2Proof Sys2Proof.Machine

/-- The illustrative assignment EX1 of spec/95_test_vectors.md, section 0. -/
def ex1 : Cfg where
  family := .primary
  opcConfig := 0x44
  opcGetversion := 0x01
  opcAutofocus := 0x3C
  opcCapture := 0x40
  opcUpload := 0x48
  baudCode := #v[0, 1, 2, 3, 4, 5, 6, 7]
  pktCode := #v[0, 1, 2, 3]
  focusCode := #v[0, 1, 2]
  defPkt := 2

/-- The next state of an outcome, if it is one. -/
def outState : Result → Option State
  | .next t => some t
  | .fault _ => none
  | .refused _ => none

/-- The refusal of an outcome, if it is one. -/
def outRefusal : Result → Option Refusal
  | .next _ => none
  | .fault _ => none
  | .refused r => some r

/-- After the hardware reset. -/
def sReset : State := State.resetWith ex1

/-- After `OPEN 4, 1000`. -/
def sOpened : State := { sReset with op := .openOp, linkOpen := true, timeout := 1000, sstate := .configuring }

/-- READY and idle, no capture. -/
def sReady : State := { sOpened with op := .configure, sstate := .ready }

/-- READY and idle with a capture result of `total` bytes in `count` packets. -/
def sCaptured (total : BitVec 24) (count : BitVec 16) : State :=
  { sReady with op := .capture, capValid := true, totalBytes := total, packetCount := count }

/-- An operation at its TX step. -/
def sTx (o : Op) (k : WireCmd) (p : Params) : State :=
  { sReady with op := o, sstate := opState o, opc := ex1.opcode k, p := p, nbaud := 7, mstep := .tx }

/-- An operation that awaits its 13-byte reply, with some bytes queued. -/
def sRx (o : Op) (fifo : List Byte) : State :=
  { sReady with op := o, sstate := opState o, nbaud := 7, npkt := 3, rxNeed := 13, rxFifo := fifo, mstep := .rx }

/-- UPLOADING a capture of 259 bytes in 2 packets of 256, with packet `k` in hand, at its TX step. -/
def sUpTx (k : BitVec 16) : State :=
  { sCaptured 259 2 with op := .upload, pktSel := 0, idx := k, sstate := .uploading, mstep := .tx }

/-- The last packet of that upload, 3 bytes long, awaited, with some bytes queued. -/
def sUpRx (k : BitVec 16) (need : BitVec 12) (fifo : List Byte) : State :=
  { sUpTx k with rxNeed := need, rxFifo := fifo, mstep := .rx }

/-- At the SWITCH step of CONFIGURE to rate 7. -/
def sSwitch (fifo : List Byte) : State :=
  { sOpened with op := .configure, nbaud := 7, rxFifo := fifo, mstep := .switch }

/-! ### WellFormed refuses ill-formed terms -/

theorem test_wf_hcwReserved : WellFormed (.hcwReserved 1) = false ∧ WellFormed (.hcwReserved 8) = false := by decide
theorem test_wf_wAutofocus : WellFormed (.wAutofocus 2 751) = false := by decide
theorem test_wf_wUpload : WellFormed (.wUpload 0 3) = false ∧ WellFormed (.wUpload 4 3) = false := by decide
theorem test_wf_rspup_empty : WellFormed (.rspup 0 paramsNone [] 0) = false := by decide
theorem test_wf_rspup_long (b : Byte) : WellFormed (.rspup 0 paramsNone (List.replicate 2049 b) 0) = false := by
  simp only [WellFormed, List.length_replicate]
  decide

/-! ### Decoding words written out from the spec's encodings -/

/-- The examples of the opcode table for the host command words (rule R104). -/
theorem test_decode_open : decodeTableWord 40 0x14000003E8 = some (.openOp 4 1000) := by decide
theorem test_decode_close : decodeTableWord 40 0x2000000000 = some .closeOp := by decide
theorem test_decode_configure : decodeTableWord 40 0x3700000002 = some (.configure 7 2) := by decide
theorem test_decode_getversion : decodeTableWord 40 0x4000000000 = some .getversion := by decide
theorem test_decode_autofocus : decodeTableWord 40 0x52000002EE = some (.autofocus 2 750) := by decide
theorem test_decode_capture : decodeTableWord 40 0x6005010200 = some (.capture 5 1 2 0) := by decide
theorem test_decode_upload : decodeTableWord 40 0x7000000000 = some .upload := by decide
theorem test_decode_reset : decodeTableWord 40 0x8000000000 = some .reset := by decide
/-- I3: code 15 with every other bit set but bit 35. -/
theorem test_decode_reserved : decodeTableWord 40 0xF7FFFFFFFF = some (.hcwReserved 15) := by decide
/-- I19, I20: the ignored bits of AUTOFOCUS. -/
theorem test_decode_ignored_bits : decodeTableWord 40 0x52000102EE = some (.autofocus 2 750) ∧
    decodeTableWord 40 0x5600000000 = some (.autofocus 2 0) := by decide

/-- Frames of the opcode table under EX1 (the rows' `example_EX1`). -/
theorem test_decode_wConfig : decode ex1 (.command .config
    [0x7E, 0x00, 0x08, 0x00, 0x44, 0x07, 0x02, 0x00, 0x00, 0x00, 0x00, 0x55, 0xE7]) = .ok (.wConfig 7 2) := by rfl
theorem test_decode_wGetversion : decode ex1 (.command .getversion
    [0x7E, 0x00, 0x08, 0x00, 0x01, 0x00, 0x00, 0x00, 0x00, 0x00, 0x00, 0x09, 0xE7]) = .ok .wGetversion := by rfl
theorem test_decode_wAutofocus : decode ex1 (.command .autofocus
    [0x7E, 0x00, 0x08, 0x00, 0x3C, 0x02, 0x02, 0xEE, 0x00, 0x00, 0x00, 0x36, 0xE7]) = .ok (.wAutofocus 2 750) := by rfl
theorem test_decode_wCapture : decode ex1 (.command .capture
    [0x7E, 0x00, 0x08, 0x00, 0x40, 0x05, 0x01, 0x02, 0x00, 0x00, 0x00, 0x50, 0xE7]) = .ok (.wCapture 5 1 2 0) := by rfl
/-- V9: index 258 of 65535. -/
theorem test_decode_wUpload : decode ex1 (.command .upload
    [0x7E, 0x00, 0x08, 0x00, 0x48, 0x01, 0x01, 0x02, 0xFF, 0xFF, 0x00, 0x52, 0xE7]) = .ok (.wUpload 258 65535) := by rfl

theorem test_decode_rsp13 : decodeTableWord 104 0x7E00080000000BB8000300CEE7 =
    some (.rsp13 0 #v[0x00, 0x0B, 0xB8, 0x00, 0x03, 0x00] 0xCE) := by decide
/-- K13: L = 3. -/
theorem test_decode_rspup : decodeTableWord 128 0x7E00080000010203040506AABBCC4EE7 =
    some (.rspup 0 #v[1, 2, 3, 4, 5, 6] [0xAA, 0xBB, 0xCC] 0x4E) := by decide
/-- Rule R281: `56 00`, opcode, length byte, parameter bytes. -/
theorem test_decode_secFrame : decodeReply [0x56, 0x00, 0x31, 0x02, 0xAA, 0xBB] =
    .ok (.secFrame 0x31 0x02 [0xAA, 0xBB]) := by rfl
/-- K4, K8 and a short window are refused by name. -/
theorem test_decode_refused :
    decodeReply [0x7F, 0, 8, 0, 0, 0, 0, 0, 0, 0, 0, 8, 0xE7] = .error .badHeader ∧
    decodeReply [0x7E, 0, 8, 0, 0, 0, 0, 0, 0, 0, 0, 8, 0x7E] = .error .badTail ∧
    decodeReply [0x7E, 0, 8, 0, 0, 0, 0, 0, 0, 0, 0, 8] = .error .tooShort := by decide

/-! ### Codec and lengths -/

/-- V7 and V11: the checksum wraps, and can be zero. -/
theorem test_encode_wraps :
    (frameOf 0xFF #v[0xFF, 0xFF, 0xFF, 0xFF, 0xFF, 0xFF])[11] = 0x01 ∧ (frameOf 0xF8 paramsNone)[11] = 0x00 := by decide
/-- K9, K12: the checksum is looked at only when enabled, and before the status. -/
theorem test_decode_checksum_switch :
    replyCheck false [0x7E, 0, 8, 0, 0, 0, 0, 0, 0, 0, 0, 9, 0xE7] 13 = .ok ⟨0, [0, 0, 0, 0, 0, 0]⟩ ∧
    replyCheck true [0x7E, 0, 8, 0, 5, 0, 0, 0, 0, 0, 0, 0, 0xE7] 13 = .error .checksum := by decide
/-- E1, E2: 2500 in 3 packets of 1024 ends with 452; 2048 in 2 ends with 1024. -/
theorem test_expectedLength :
    expectedLength (sCaptured 2500 3) 2 = 1024 ∧ expectedLength (sCaptured 2500 3) 3 = 452 ∧
    expectedLength (sCaptured 2048 2) 2 = 1024 := by decide

/-! ### Host operations -/

/-- P1 step 1. -/
theorem test_open : (outState (exec (.openOp 4 1000) sReset)).map
    (fun t => (t.op, t.err, t.linkOpen, t.baudSel, t.timeout, t.sstate)) =
    some (.openOp, .ok, true, 4, 1000, .configuring) := by decide
/-- I9. -/
theorem test_open_illegal : (outState (exec (.openOp 4 1000) sOpened)).map (fun t => (t.err, t.op)) =
    some (.state, .openOp) := by decide
/-- I8. -/
theorem test_close : (outState (exec .closeOp { sReset with err := .state })).map
    (fun t => (t.err, t.op, t.sstate)) = some (.ok, .closeOp, .disconnected) := by decide
/-- P1 step 2. -/
theorem test_configure : (outState (exec (.configure 7 2) sOpened)).map
    (fun t => (t.nbaud, t.npkt, t.opc, t.p, t.mstep)) =
    some (7, 2, 0x44, #v[0x07, 0x02, 0, 0, 0, 0], .tx) := by decide
/-- I12. -/
theorem test_configure_illegal : (outState (exec (.configure 7 2) sReady)).map (·.err) = some .state := by decide
/-- P1 step 7. -/
theorem test_getversion : (outState (exec .getversion sReady)).map
    (fun t => (t.op, t.opc, t.p, t.mstep, t.sstate)) =
    some (.getversion, 0x01, #v[0, 0, 0, 0, 0, 0], .tx, .ready) := by decide
/-- P2 step 1. -/
theorem test_autofocus : (outState (exec (.autofocus 2 750) sReady)).map
    (fun t => (t.op, t.opc, t.p, t.sstate, t.mstep)) =
    some (.autofocus, 0x3C, #v[0x02, 0x02, 0xEE, 0, 0, 0], .focusing, .tx) := by decide
/-- I14, I17: 751 in manual mode is out of range; in auto mode the value is ignored. -/
theorem test_autofocus_range :
    (outState (exec (.autofocus 2 751) sReady)).map (fun t => (t.err, t.sstate)) = some (.param, .ready) ∧
    (outState (exec (.autofocus 0 65535) sReady)).map (·.p) = some #v[0, 0, 0, 0, 0, 0] := by decide
/-- P2 step 5. -/
theorem test_capture : (outState (exec (.capture 5 1 2 0) { sCaptured 9 1 with bufLen := 2, img := [(0, 7), (1, 8)] })).map
    (fun t => (t.capValid, t.img.length, t.opc, t.p, t.sstate)) =
    some (false, 0, 0x40, #v[0x05, 0x01, 0x02, 0, 0, 0], .capturing) := by decide
/-- P2 step 9. -/
theorem test_upload : (outState (exec .upload (sCaptured 3000 3))).map
    (fun t => (t.op, t.idx, t.sstate, t.mstep)) = some (.upload, 1, .uploading, .tx) := by decide
/-- Rule R222: no packet, and I11: no valid capture. -/
theorem test_upload_edges :
    (outState (exec .upload (sCaptured 0 0))).map (fun t => (t.err, t.mstep)) = some (.ok, .idle) ∧
    (outState (exec .upload (sCaptured 5 0))).map (fun t => (t.err, t.mstep)) = some (.incomplete, .idle) ∧
    (outState (exec .upload sReady)).map (·.err) = some .state := by decide
/-- P2 step 19. -/
theorem test_reset : (outState (exec .reset sReady)).map
    (fun t => (t.nbaud, t.npkt, t.opc, t.p, t.sstate)) =
    some (4, 2, 0x44, #v[0x04, 0x02, 0, 0, 0, 0], .resetting) := by decide
/-- I1. -/
theorem test_reserved : (outState (exec (.hcwReserved 0) sReset)).map (fun t => (t.err, t.op)) =
    some (.param, .none) := by decide
/-- I21: ignored while busy. -/
theorem test_busy : outState (exec .closeOp (sTx .getversion .getversion paramsNone)) =
    some (sTx .getversion .getversion paramsNone) := by decide

/-! ### Wire commands -/

/-- P1 step 3. -/
theorem test_wConfig : (outState (exec (.wConfig 7 2) (sTx .configure .config paramsNone))).map
    (fun t => (t.txf, t.ck, t.rxNeed, t.mstep)) =
    some (#v[0x7E, 0x00, 0x08, 0x00, 0x44, 0x07, 0x02, 0x00, 0x00, 0x00, 0x00, 0x55, 0xE7], 0x55, 13, .rx) := by decide
/-- T2: the frame in the history, at the rate in force. -/
theorem test_wGetversion : (outState (exec .wGetversion (sTx .getversion .getversion paramsNone))).map (·.txLog) =
    some [(4, 0x7E), (4, 0x00), (4, 0x08), (4, 0x00), (4, 0x01), (4, 0x00), (4, 0x00), (4, 0x00), (4, 0x00), (4, 0x00),
      (4, 0x00), (4, 0x09), (4, 0xE7)] := by decide
/-- P2 step 2. -/
theorem test_wAutofocus : (outState (exec (.wAutofocus 2 750) (sTx .autofocus .autofocus paramsNone))).map
    (fun t => (t.p, t.ck, t.sstate)) = some (#v[0x02, 0x02, 0xEE, 0, 0, 0], 0x36, .focusing) := by decide
/-- P2 step 6. -/
theorem test_wCapture : (outState (exec (.wCapture 5 1 2 0) (sTx .capture .capture paramsNone))).map
    (fun t => (t.txf[11], t.mstep)) = some (0x50, .rx) := by decide
/-- Rule R225 for a last packet of 3 bytes; the frame by rule R110 and rule R141: 8 + 48 + 1 + 2 + 2 (hexadecimal). -/
theorem test_wUpload : (outState (exec (.wUpload 2 2) (sUpTx 2))).map (fun t => (t.p, t.ck, t.rxNeed)) =
    some (#v[0x01, 0x00, 0x02, 0x00, 0x02, 0x00], 0x55, 16) := by decide

/-! ### Received frames -/

/-- P1 step 5: a CONFIGURE reply commits the packet size; the rate waits for SWITCH. -/
theorem test_rsp13_configure : (outState (exec (.rsp13 0 paramsNone 0x08) (sRx .configure []))).map
    (fun t => (t.pktSel, t.mstep, t.baudSel)) = some (3, .switch, 4) := by decide
/-- P2 step 8. -/
theorem test_rsp13_capture :
    (outState (exec (.rsp13 0 #v[0x00, 0x0B, 0xB8, 0x00, 0x03, 0x00] 0xCE) (sRx .capture []))).map
    (fun t => (t.totalBytes, t.packetCount, t.capValid, t.sstate, t.mstep)) = some (3000, 3, true, .ready, .idle) := by
  decide
/-- K13: the last packet of 3 bytes; only the payload is appended. -/
theorem test_rspup : (outState (exec (.rspup 0 #v[1, 2, 3, 4, 5, 6] [0xAA, 0xBB, 0xCC] 0x4E)
      { sUpRx 2 16 [] with bufLen := 1, img := [(0, 0x10)] })).map (fun t => (t.img, t.bufLen, t.err, t.sstate)) =
    some ([(0, 0x10), (1, 0xAA), (2, 0xBB), (3, 0xCC)], 4, .incomplete, .ready) := by decide
/-- K14 with the check on: the packet is skipped with CHECKSUM. -/
theorem test_rspup_checksum : (outState (exec (.rspup 0 #v[1, 2, 3, 4, 5, 6] [0xAA, 0xBC, 0xCC] 0x4E)
      { sUpRx 2 16 [] with ctrl := 1 })).map (fun t => (t.pktErr, t.skipCount, t.ck, t.bufLen)) =
    some (.checksum, 1, 0x4F, 0) := by decide
/-- Rule R280, rule R120. -/
theorem test_secFrame :
    outRefusal (exec (.secFrame 0x31 0x02 [0xAA, 0xBB]) sReady) = some .secondaryVariantNotImplemented ∧
    (outState (exec (.secFrame 8 0 [0, 0, 0, 0, 0, 0, 0, 8, 0xE7]) (sRx .getversion []))).map
      (fun t => (t.err, t.sstate)) = some (.malformed, .disconnected) := by decide

/-! ### Steps that are no row of the table -/

/-- X1 to X4 through the step: the kind, `status` and `CK`. -/
theorem test_priority_unchecked : (outState (step { sRx .getversion
      [0x7E, 0x00, 0x08, 0x00, 0x05, 0, 0, 0, 0, 0, 0, 0x0E, 0xE7] with ck := 0x09, agenda := [.ctrl] })).map
    (fun t => (t.err, t.rb[4], t.ck, t.sstate)) = some (.device, 0x05, 0x09, .disconnected) := by decide
theorem test_priority_checked : (outState (step { sRx .getversion
      [0x7E, 0x00, 0x08, 0x00, 0x05, 0, 0, 0, 0, 0, 0, 0x0E, 0xE7] with ck := 0x09, ctrl := 1 })).map
    (fun t => (t.err, t.rb[4], t.ck, t.sstate)) = some (.checksum, 0x05, 0x0D, .disconnected) := by decide
theorem test_priority_malformed : (outState (step { sRx .getversion
      [0x7E, 0x00, 0x08, 0x00, 0x05, 0, 0, 0, 0, 0, 0, 0x0E, 0x00] with ck := 0x09, ctrl := 1 })).map
    (fun t => (t.err, t.rb[4], t.ck, t.sstate)) = some (.malformed, 0x05, 0x09, .disconnected) := by decide
/-- T5: twelve bytes of a reply are a timeout. -/
theorem test_timeout : (outState (step (sRx .configure [0x7E, 0, 8, 0, 0, 0, 0, 0, 0, 0, 0, 8]))).map
    (fun t => (t.err, t.sstate, t.linkOpen, t.baudSel, t.rxFifo)) = some (.timeout, .disconnected, false, 4, []) := by
  decide
/-- T6, T7. -/
theorem test_switch : (outState (step (sSwitch []))).map (fun t => (t.baudSel, t.sstate, t.mstep)) =
      some (7, .ready, .idle) ∧
    (outState (step (sSwitch [0x00]))).map (fun t => (t.err, t.baudSel, t.sstate)) =
      some (.order, 4, .disconnected) := by decide
/-- T9, T10. -/
theorem test_dev : (outState (step { sReset with agenda := [.dev 0x55] })).map (·.rxFifo) = some [] ∧
    (outState (step { sReady with agenda := [.dev 0x55] })).map (·.rxFifo) = some [0x55] := by decide
/-- Z1 on the end of an upload. -/
theorem test_hwReset : outState (step { sUpRx 2 16 [1, 2] with agenda := [.hwReset] }) = some sReset := by decide
/-- Rule R21: register 13 is `buf_len`; there is no register 54. -/
theorem test_readReg :
    (outState (step { sReady with bufLen := 3000, agenda := [.readReg 13] })).map (·.hostReg) = some 3000 ∧
    outRefusal (step { sReady with agenda := [.readReg 54] }) = some (.noSuchRegister 54) := by decide
/-- A table word placed where the step fetches is the next instruction run (log entry 12). -/
theorem test_withFetchWord :
    (outState (step (sReset.withFetchWord 40 0x14000003E8))).map (·.sstate) = some .configuring ∧
    (outState (step (sReset.withFetchWord 104 0x7E00080000000BB8000300CEE7))).map (fun t => (t.err, t.rb[6])) =
      some (.ok, 0x0B) := by decide

/-! ### The hypotheses of the statements can be met

One theorem or more for each obligation that has hypotheses, at boundary values of its clauses. -/

/-- An outcome whose next state passes a check is a next state that passes it. -/
theorem next_of_any {r : Result} {q : State → Bool} (h : (outState r).any q = true) :
    ∃ t, r = .next t ∧ q t = true := by
  cases r with
  | next t => exact ⟨t, rfl, by simpa [outState] using h⟩
  | fault f => simp [outState] at h
  | refused f => simp [outState] at h

/-- OKREPLY of spec/95_test_vectors.md. -/
def okBytes : List Byte := [0x7E, 0, 8, 0, 0, 0, 0, 0, 0, 0, 0, 8, 0xE7]

theorem witness_inv_reset : sReset.Inv :=
  ⟨⟨by decide, by decide, by decide, by decide, by decide, by decide, by decide⟩, by decide,
    fun h => absurd h (by decide), by decide, by decide, by decide, by decide⟩

theorem witness_inv_captured : ({ sCaptured 259 2 with bufLen := 1, idx := 1, img := [(0, 7)] } : State).Inv :=
  ⟨⟨by decide, by decide, by decide, by decide, by decide, by decide, by decide⟩, by decide,
    fun h => absurd h (by decide), by decide, by decide, by decide, by decide⟩

theorem witness_inv_command : (sTx .getversion .getversion paramsNone).Inv :=
  ⟨⟨by decide, by decide, by decide, by decide, by decide, by decide, by decide⟩, by decide,
    fun _ k hk => by cases k <;> revert hk <;> decide, by decide, by decide, by decide, by decide⟩

theorem witness_inv_awaiting : (sRx .autofocus okBytes).Inv :=
  ⟨⟨by decide, by decide, by decide, by decide, by decide, by decide, by decide⟩, by decide,
    fun h => absurd h (by decide), by decide, by decide, by decide, by decide⟩

theorem witness_inv_switch : (sSwitch [0x00]).Inv :=
  ⟨⟨by decide, by decide, by decide, by decide, by decide, by decide, by decide⟩, by decide,
    fun h => absurd h (by decide), by decide, by decide, by decide, by decide⟩

theorem witness_inv_upTx : (sUpTx 1).Inv :=
  ⟨⟨by decide, by decide, by decide, by decide, by decide, by decide, by decide⟩, by decide,
    fun _ k hk => by cases k <;> revert hk <;> decide, by decide, by decide, by decide, by decide⟩

theorem witness_inv_upRx : ({ sUpRx 2 16 [1, 2] with bufLen := 1, img := [(0, 7)] } : State).Inv :=
  ⟨⟨by decide, by decide, by decide, by decide, by decide, by decide, by decide⟩, by decide,
    fun h => absurd h (by decide), by decide, by decide, by decide, by decide⟩

/-- The schedule is no part of the invariant. -/
theorem inv_scheduled {s : State} (h : s.Inv) (l : List Move) : ({ s with agenda := l } : State).Inv := by
  obtain ⟨⟨a, b, c, d, e, f, g⟩, i, j, k, m, n, o⟩ := h
  exact ⟨⟨a, b, c, d, e, f, g⟩, i, j, k, m, n, o⟩

/-- While the block is busy the invariant holds whatever bytes are queued. -/
theorem inv_queued {s : State} (h : s.Inv) (hb : s.mstep ≠ .idle) (l : List Byte) :
    ({ s with rxFifo := l } : State).Inv := by
  obtain ⟨⟨a, b, c, d, e, f, g⟩, i, j, k, m, n, o⟩ := h
  exact ⟨⟨a, fun hd => absurd (b hd).1 hb, c, d, e, f, g⟩, i, j, k, m, n, o⟩

theorem witness_inv_capture : (sRx .capture []).Inv :=
  ⟨⟨by decide, by decide, by decide, by decide, by decide, by decide, by decide⟩, by decide,
    fun h => absurd h (by decide), by decide, by decide, by decide, by decide⟩

theorem witness_DecodeOfEncodeIsIdentity (b : Byte) : ex1.wf ∧
    WellFormed (.hcwReserved 0) = true ∧ WellFormed (.hcwReserved 9) = true ∧ WellFormed (.hcwReserved 15) = true ∧
    WellFormed (.wAutofocus 2 750) = true ∧ WellFormed (.wUpload 1 1) = true ∧
    WellFormed (.wUpload 65535 65535) = true ∧ WellFormed (.rspup 0 paramsNone [7] 0) = true ∧
    WellFormed (.rspup 0 paramsNone (List.replicate 2048 b) 0) = true := by
  refine ⟨by decide, by decide, by decide, by decide, by decide, by decide, by decide, by decide, ?_⟩
  simp only [WellFormed, List.length_replicate]
  decide

theorem witness_EncodeOfDecodedFrameIsFrame :
    decode ex1 (.command .getversion [0x7E, 0, 8, 0, 1, 0, 0, 0, 0, 0, 0, 9, 0xE7]) = .ok .wGetversion ∧
    decode ex1 (.reply okBytes) = .ok (.rsp13 0 paramsNone 8) := ⟨by rfl, by rfl⟩

theorem witness_HostWordIgnoresUnusedBits :
    usedBits 0x1F00000001 = usedBits 0x1700000001 ∧ usedBits 0x2FFFFFFFFF = usedBits 0x2000000000 ∧
    usedBits 0x3FFFFFFFFE = usedBits 0x3700000002 ∧ usedBits 0x5FFFFFFFFF = usedBits 0x530000FFFF ∧
    usedBits 0x6F05010200 = usedBits 0x6005010200 ∧ usedBits 0xFFFFFFFFFF = usedBits 0xF000000000 := by decide

theorem witness_HostWordSelectsOperation :
    [0x0FFFFFFFFF#40, 0x1FFFFFFFFF#40, 0x2FFFFFFFFF#40, 0x3FFFFFFFFF#40, 0x4FFFFFFFFF#40, 0x5FFFFFFFFF#40,
      0x6FFFFFFFFF#40, 0x7FFFFFFFFF#40, 0x8FFFFFFFFF#40, 0x9000000000#40, 0xFFFFFFFFFF#40].map
        (fun w => (w.extractLsb' 36 4).toNat) = [0, 1, 2, 3, 4, 5, 6, 7, 8, 9, 15] := by decide

theorem witness_ChecksumArithmetic :
    List.Perm (((okBytes.drop 1).take (10 + 1 - 1)) : List Byte) ((okBytes.reverse.drop 2).take (10 + 1 - 1)) ∧
    1 < okBytes.length ∧ 10 < okBytes.length ∧ (1 : Nat) ≠ 10 ∧ (1 : Nat) ≤ 1 ∧ (10 : Nat) ≤ 10 ∧ (10 : Nat) < 11 := by
  decide

theorem witness_DecodeChecksInOrder :
    (13 : Nat) ≤ 13 ∧ okBytes.length = 13 ∧ (0 :: okBytes).length ≠ 13 ∧
    (0x7F :: okBytes.drop 1).take 4 ≠ [0x7E, 0, 8, 0] ∧ okBytes.getD 11 0 = cksum okBytes 1 10 := by decide

theorem witness_CaptureReplyIsParsedBigEndian : (1 : Byte) ≠ 0 ∧ (255 : Byte) ≠ 0 ∧ (0 : Byte) = 0 := by decide

theorem witness_OpenAccepted : sReset.mstep = .idle ∧ sReset.sstate = .disconnected ∧
    sReady.mstep = .idle ∧ sReady.sstate ≠ .disconnected := by decide
theorem witness_CloseAccepted : sReady.mstep = .idle ∧ sReset.mstep = .idle := by decide
theorem witness_ConfigureAccepted : sOpened.mstep = .idle ∧ sOpened.sstate = .configuring ∧
    sReady.mstep = .idle ∧ sReady.sstate ≠ .configuring := by decide
theorem witness_GetversionAccepted : sReady.mstep = .idle ∧ sReady.sstate = .ready ∧
    sOpened.mstep = .idle ∧ sOpened.sstate ≠ .ready := by decide
theorem witness_AutofocusAccepted : sReady.mstep = .idle ∧ sReady.sstate = .ready ∧ sOpened.sstate ≠ .ready ∧
    (3 : BitVec 2) = 3 ∧ 750 < (751 : BitVec 16).toNat ∧ (2 : BitVec 2).toNat < 3 ∧ (750 : BitVec 16).toNat ≤ 750 ∧
    (0 : BitVec 2).toNat < 3 ∧ ((0 : BitVec 2) = 2 → (65535 : BitVec 16).toNat ≤ 750) := by decide
theorem witness_CaptureAccepted : sReady.mstep = .idle ∧ sReady.sstate = .ready ∧
    sOpened.mstep = .idle ∧ sOpened.sstate ≠ .ready := by decide
theorem witness_UploadAccepted :
    ((sCaptured 7 1).mstep = .idle ∧ (sCaptured 7 1).sstate = .ready ∧ (sCaptured 7 1).capValid = true ∧
      1 ≤ (sCaptured 7 1).packetCount.toNat) ∧
    ((sCaptured 0 0).mstep = .idle ∧ (sCaptured 0 0).sstate = .ready ∧ (sCaptured 0 0).capValid = true ∧
      (sCaptured 0 0).packetCount = 0) ∧
    (sReady.mstep = .idle ∧ ¬ (sReady.sstate = .ready ∧ sReady.capValid = true)) := by decide
theorem witness_ResetAccepted : sReady.mstep = .idle ∧ sReady.sstate = .ready ∧
    sOpened.mstep = .idle ∧ sOpened.sstate ≠ .ready := by decide
theorem witness_ReservedCodeRejected : sReset.mstep = .idle ∧
    (0x0FFFFFFFFF : HostWord).extractLsb' 36 4 = 0 ∧ 9 ≤ ((0x9000000000 : HostWord).extractLsb' 36 4).toNat := by decide
theorem witness_CommandWordIgnoredWhileBusy : (sTx .getversion .getversion paramsNone).mstep ≠ .idle ∧
    (sRx .capture []).mstep ≠ .idle ∧ (sSwitch []).mstep ≠ .idle := by decide

/-- W.CONFIG for CONFIGURE and for RESET, and the three other frames: the state and the operands together. -/
theorem witness_CommandFrameTransmitted :
    ∀ o k, (o, k) ∈ [(Op.configure, WireCmd.config), (.reset, .config), (.getversion, .getversion),
        (.autofocus, .autofocus), (.capture, .capture)] →
      (sTx o k paramsNone).mstep = .tx ∧ (sTx o k paramsNone).sstate ≠ .uploading ∧
      wireOf (sTx o k paramsNone).op = some k ∧
      ∃ (i : Instr) (q : Params),
        (∃ b z, i = .wConfig b z ∧ k = .config ∧
          q = #v[ex1.baudCode[b.toNat]'b.isLt, ex1.pktCode[z.toNat]'z.isLt, 0, 0, 0, 0]) ∨
        (i = .wGetversion ∧ k = .getversion ∧ q = #v[0, 0, 0, 0, 0, 0]) ∨
        (∃ x v, i = .wAutofocus x v ∧ k = .autofocus ∧
          q = #v[x, BitVec.extractLsb' 8 8 v, BitVec.extractLsb' 0 8 v, 0, 0, 0]) ∨
        (∃ r c f e, i = .wCapture r c f e ∧ k = .capture ∧ q = #v[r, c, f, e, 0, 0]) := by
  intro o k h
  simp only [List.mem_cons, Prod.mk.injEq, List.not_mem_nil, or_false] at h
  rcases h with ⟨rfl, rfl⟩ | ⟨rfl, rfl⟩ | ⟨rfl, rfl⟩ | ⟨rfl, rfl⟩ | ⟨rfl, rfl⟩
  · exact ⟨by decide, by decide, by decide, _, _, .inl ⟨7, 3, rfl, rfl, rfl⟩⟩
  · exact ⟨by decide, by decide, by decide, _, _, .inl ⟨4, 2, rfl, rfl, rfl⟩⟩
  · exact ⟨by decide, by decide, by decide, _, _, .inr (.inl ⟨rfl, rfl, rfl⟩)⟩
  · exact ⟨by decide, by decide, by decide, _, _, .inr (.inr (.inl ⟨2, 750, rfl, rfl, rfl⟩))⟩
  · exact ⟨by decide, by decide, by decide, _, _, .inr (.inr (.inr ⟨5, 1, 2, 0, rfl, rfl, rfl⟩))⟩

theorem witness_UploadRequestTransmitted : (sUpTx 1).mstep = .tx ∧ (sUpTx 1).sstate = .uploading := by decide

theorem witness_GoodReplyCommits : ∀ o ∈ [Op.configure, .reset, .getversion, .autofocus, .capture], ∀ c ∈ [(0 : BitVec 1), 1],
    ({ sRx o [] with ctrl := c } : State).mstep = .rx ∧ ({ sRx o [] with ctrl := c } : State).sstate ≠ .uploading ∧
    ({ sRx o [] with ctrl := c } : State).op = o ∧
    (({ sRx o [] with ctrl := c } : State).ctrl = 1 → (8 : Byte) = 8 + 0 + 0 + 0 + 0 + 0 + 0) := by decide

theorem witness_BadReplyAborts : ∀ c ∈ [(0 : BitVec 1), 1],
    ({ sRx .capture [] with ctrl := c } : State).mstep = .rx ∧
    ({ sRx .capture [] with ctrl := c } : State).sstate ≠ .uploading ∧
    (13 : Byte) = 8 + 5 + 0 + 0 + 0 + 0 + 0 + 0 ∧ (14 : Byte) ≠ 13 ∧
    (({ sRx .capture [] with ctrl := c } : State).ctrl = 1 → (13 : Byte) = 13) ∧ (5 : Byte) ≠ 0 := by decide

theorem witness_GoodPacketAppended : ∀ c ∈ [(0 : BitVec 1), 1],
    ({ sUpRx 2 14 [] with ctrl := c } : State).mstep = .rx ∧ ({ sUpRx 2 14 [] with ctrl := c } : State).sstate = .uploading ∧
    ({ sUpRx 2 14 [] with ctrl := c } : State).rxNeed.toNat = 13 + ([7] : List Byte).length ∧
    (({ sUpRx 2 14 [] with ctrl := c } : State).ctrl = 1 →
      (15 : Byte) = sumBytes ([0x00, 0x08, 0x00, 0x00] ++ paramsNone.toList ++ [7])) := by decide

theorem witness_BadPacketSkipped : ∀ c ∈ [(0 : BitVec 1), 1],
    ({ sUpRx 2 14 [] with ctrl := c } : State).mstep = .rx ∧ ({ sUpRx 2 14 [] with ctrl := c } : State).sstate = .uploading ∧
    ({ sUpRx 2 14 [] with ctrl := c } : State).rxNeed.toNat = 13 + ([7] : List Byte).length ∧
    (16 : Byte) = sumBytes ([0x00, 0x08, 0x00, 0x01] ++ paramsNone.toList ++ [7]) ∧ (14 : Byte) ≠ 16 ∧
    (({ sUpRx 2 14 [] with ctrl := c } : State).ctrl = 1 → (16 : Byte) = 16) ∧ (1 : Byte) ≠ 0 := by decide

theorem witness_ReplyWithNoCommandStops : ∀ o ∈ [Op.none, .openOp, .closeOp, .upload],
    ({ sRx .getversion [] with op := o } : State).mstep = .rx ∧
    ({ sRx .getversion [] with op := o } : State).sstate ≠ .uploading ∧
    (8 : Byte) = 8 + 0 + 0 + 0 + 0 + 0 + 0 := by decide

theorem witness_FrameOutsideItsStepChangesNothing :
    (∀ k ∈ [WireCmd.config, .getversion, .autofocus, .capture],
      ¬ (sReset.mstep = .tx ∧ sReset.sstate ≠ .uploading ∧ wireOf sReset.op = some k)) ∧
    ¬ (sReset.mstep = .tx ∧ sReset.sstate = .uploading) ∧ ¬ ((sUpRx 2 16 []).mstep = .rx ∧ readLen (sUpRx 2 16 []) = 13) ∧
    ¬ ((sUpRx 2 16 []).mstep = .rx ∧ readLen (sUpRx 2 16 []) = 13 + ([1, 2] : List Byte).length) := by decide

theorem witness_SecondaryFrameIsMalformed :
    ((sRx .getversion []).mstep = .rx ∧ (sRx .getversion []).sstate ≠ .uploading ∧
      (List.replicate 9 (0 : Byte)).length = 9) ∧
    ((sUpRx 1 16 []).mstep = .rx ∧ (sUpRx 1 16 []).sstate = .uploading ∧
      4 + (List.replicate 12 (0 : Byte)).length = (sUpRx 1 16 []).rxNeed.toNat ∧
      (sUpRx 1 16 []).idx ≠ (sUpRx 1 16 []).packetCount) ∧
    ((sUpRx 2 16 []).mstep = .rx ∧ (sUpRx 2 16 []).sstate = .uploading ∧
      4 + (List.replicate 12 (0 : Byte)).length = (sUpRx 2 16 []).rxNeed.toNat ∧
      (sUpRx 2 16 []).idx = (sUpRx 2 16 []).packetCount) ∧
    ¬ (sReady.mstep = .rx ∧ 4 + 9 = readLen sReady) := by decide

theorem witness_StepRunsDecodedInstruction :
    decode sReset.cfg (.hcw 0x2000000000) = .ok .closeOp ∧
    ((sTx .getversion .getversion paramsNone).mstep = .tx ∧ wireOf (sTx .getversion .getversion paramsNone).op =
      some .getversion ∧ decode ex1 (.command .getversion (frameOf 0x01 paramsNone).toList) = .ok .wGetversion) ∧
    ((sUpTx 1).mstep = .tx ∧ (sUpTx 1).sstate = .uploading) ∧
    ((sRx .getversion okBytes).mstep = .rx ∧ readLen (sRx .getversion okBytes) ≤ (sRx .getversion okBytes).rxFifo.length ∧
      decode ex1 (.reply (okBytes.take 13)) = .ok (.rsp13 0 paramsNone 8)) ∧ sReset.agenda = [] :=
  ⟨by rfl, ⟨by decide, by decide, by rfl⟩, ⟨by decide, by decide⟩, ⟨by decide, by decide, by rfl⟩, by rfl⟩

theorem witness_CommandTransmitStep : (sTx .reset .config paramsNone).mstep = .tx ∧
    (sTx .reset .config paramsNone).sstate ≠ .uploading := by decide

theorem witness_MalformedWindowAborts : ∀ v ∈ [(0x7F :: okBytes.drop 1 : List Byte), okBytes.take 12 ++ [0x7E]],
    (sRx .capture (v ++ [1])).mstep = .rx ∧ (sRx .capture (v ++ [1])).sstate ≠ .uploading ∧
    (sRx .capture (v ++ [1])).rxFifo = v ++ [1] ∧ v.length = 13 ∧
    (v.take 4 ≠ [0x7E, 0x00, 0x08, 0x00] ∨ v.getD 12 0 ≠ 0xE7) := by decide

/-- For packet 1 of 2. -/
theorem witness_MalformedPacketSkipped : ∀ v ∈ [(0x7F :: okBytes.drop 1 : List Byte), okBytes.take 12 ++ [0x7E]],
    (sUpRx 1 13 (v ++ [1])).mstep = .rx ∧ (sUpRx 1 13 (v ++ [1])).sstate = .uploading ∧
    13 ≤ (sUpRx 1 13 (v ++ [1])).rxNeed.toNat ∧ (sUpRx 1 13 (v ++ [1])).rxFifo = v ++ [1] ∧
    v.length = (sUpRx 1 13 (v ++ [1])).rxNeed.toNat ∧
    (v.take 4 ≠ [0x7E, 0x00, 0x08, 0x00] ∨ v.getD (v.length - 1) 0 ≠ 0xE7) := by decide

/-- For the last packet. -/
theorem witness_MalformedPacketSkipped_last : ∀ v ∈ [(0x7F :: okBytes.drop 1 : List Byte), okBytes.take 12 ++ [0x7E]],
    (sUpRx 2 13 (v ++ [1])).mstep = .rx ∧ (sUpRx 2 13 (v ++ [1])).sstate = .uploading ∧
    13 ≤ (sUpRx 2 13 (v ++ [1])).rxNeed.toNat ∧ (sUpRx 2 13 (v ++ [1])).rxFifo = v ++ [1] ∧
    v.length = (sUpRx 2 13 (v ++ [1])).rxNeed.toNat ∧
    (v.take 4 ≠ [0x7E, 0x00, 0x08, 0x00] ∨ v.getD (v.length - 1) 0 ≠ 0xE7) := by decide

theorem witness_TimedOutRead :
    ((sRx .capture (okBytes.take 12)).mstep = .rx ∧ (sRx .capture (okBytes.take 12)).sstate ≠ .uploading ∧
      (sRx .capture (okBytes.take 12)).rxFifo.length < 13) ∧
    ((sUpRx 2 16 (0 :: 0 :: okBytes)).mstep = .rx ∧ (sUpRx 2 16 (0 :: 0 :: okBytes)).sstate = .uploading ∧
      (sUpRx 2 16 (0 :: 0 :: okBytes)).rxFifo.length < (sUpRx 2 16 []).rxNeed.toNat) := by decide

theorem witness_SwitchStepDrainsFirst : (sSwitch []).mstep = .switch ∧ (sSwitch []).rxFifo = [] ∧
    (sSwitch [0x00]).mstep = .switch ∧ (sSwitch [0x00]).rxFifo ≠ [] := by decide

theorem witness_HardwareResetFromAnyState :
    ({ sUpRx 2 16 [1] with agenda := [.hwReset] } : State).agenda = .hwReset :: [] ∧ (53 : Nat) ≤ 53 := by decide

theorem witness_ResetRegisterValues : (0 : Nat) ≤ 53 ∧ (53 : Nat) ≤ 53 := by decide

theorem witness_DevByteQueuedOrDropped :
    ({ sReady with agenda := [.dev 0x55] } : State).agenda = .dev 0x55 :: [] ∧ sReady.linkOpen = true ∧
    sReset.linkOpen = false := by decide

theorem witness_CtrlWriteTakesBitZero :
    ({ sReady with agenda := [.writeCtrl 0xFFFFFFFF] } : State).agenda = .writeCtrl 0xFFFFFFFF :: [] ∧
    sReady.mstep = .idle ∧ (sSwitch []).mstep ≠ .idle := by decide

theorem witness_HostReadsDeliverAndChangeNothing :
    regRead sReady 0 = some 2 ∧ regRead sReady 53 = some 2 ∧ regRead (sCaptured 259 2) 10 = some 259 ∧
    regRead (sCaptured 259 2) 11 = some 2 ∧ ({ sReady with agenda := [.readReg 53] } : State).agenda = .readReg 53 :: [] ∧
    ({ sReady with agenda := [.readImg 0 2] } : State).agenda = .readImg 0 2 :: [] ∧
    (1 < 2 ∧ 0 + 1 < ({ sReady with bufLen := 2, img := [(0, 7), (1, 8)] } : State).bufLen.toNat ∧
      Memory.read [(0, 7), (1, 8)] (0 + 1) = some 8) := by decide

theorem witness_StepKeepsInvariant : (sRx .autofocus okBytes).Inv ∧ ∃ t, step (sRx .autofocus okBytes) = .next t ∧
    (t.sstate == .ready) = true :=
  ⟨witness_inv_awaiting, next_of_any (by decide)⟩

theorem witness_EveryRunIsConsistent : ∃ t : State,
    Host.Core.run core 2 { State.resetWith ex1 with agenda := [.host 0x14000003E8, .host 0x3700000002] } = .next t ∧
    (t.mstep == .tx) = true :=
  next_of_any (by decide)

theorem witness_StepKeepsMemoryCanonical :
    ({ sUpRx 2 16 (upReply [1, 2, 3]) with bufLen := 1, img := [(0, 7)] } : State).img.wf ∧
    ∃ t, step { sUpRx 2 16 (upReply [1, 2, 3]) with bufLen := 1, img := [(0, 7)] } = .next t ∧
      (t.img == [(0, 7), (1, 1), (2, 2), (3, 3)]) = true :=
  ⟨by decide, next_of_any (by decide)⟩

theorem witness_StepNeverStops : (sSwitch [0x00]).Inv := witness_inv_switch

/-- GETVERSION at its TX step, with a schedule of DEV and CTRL moves to come. -/
def sCommandScheduled : State :=
  { sTx .getversion .getversion paramsNone with agenda := [.ctrl, .dev 1, .ctrl, .ctrl] }

/-- The first packet's TX step, with a schedule of DEV and CTRL moves to come. -/
def sUploadScheduled : State := { sUpTx 1 with agenda := [.ctrl, .ctrl, .dev 1, .ctrl, .ctrl] }

theorem witness_OperationsEnd_command : sCommandScheduled.Inv ∧ sCommandScheduled.mstep ≠ .idle ∧
    (∀ m ∈ sCommandScheduled.agenda, m.isDevOrCtrl = true) ∧
    ctrlBound sCommandScheduled ≤ sCommandScheduled.agenda.count .ctrl :=
  ⟨inv_scheduled witness_inv_command _, by decide, by decide, by decide⟩

theorem witness_OperationsEnd_upload : sUploadScheduled.Inv ∧ sUploadScheduled.mstep ≠ .idle ∧
    (∀ m ∈ sUploadScheduled.agenda, m.isDevOrCtrl = true) ∧
    ctrlBound sUploadScheduled ≤ sUploadScheduled.agenda.count .ctrl :=
  ⟨inv_scheduled witness_inv_upTx _, by decide, by decide, by decide⟩

/-- Rows of rule R215 by a host word: OPEN, AUTOFOCUS, CAPTURE, UPLOAD, RESET, CLOSE. -/
theorem witness_SessionTransitionsAreTheTable_host :
    (sReset.Inv ∧ ∃ t, step { sReset with agenda := [.host 0x14000003E8] } = .next t ∧
      (t.sstate == .configuring) = true) ∧
    ({ sCaptured 259 2 with bufLen := 1, idx := 1, img := [(0, 7)] } : State).Inv ∧
    (∀ p ∈ [(0x52000002EE, SState.focusing), (0x6005010200, .capturing), (0x7000000000, .uploading),
        (0x8000000000, .resetting), (0x2000000000, .disconnected)],
      (outState (step { sCaptured 259 2 with bufLen := 1, idx := 1, img := [(0, 7)], agenda := [.host p.1] })).any
        (fun t => t.sstate == p.2) = true) :=
  ⟨⟨witness_inv_reset, next_of_any (by decide)⟩, witness_inv_captured, by decide⟩

/-- Rows of rule R215 by CTRL: the SWITCH step that succeeds and the one that aborts, a focus reply, the last packet. -/
theorem witness_SessionTransitionsAreTheTable_ctrl :
    ((sSwitch []).Inv ∧ ∃ t, step (sSwitch []) = .next t ∧ (t.sstate == .ready) = true) ∧
    ((sSwitch [0x00]).Inv ∧ ∃ t, step (sSwitch [0x00]) = .next t ∧ (t.sstate == .disconnected) = true) ∧
    ((sRx .autofocus okBytes).Inv ∧ ∃ t, step (sRx .autofocus okBytes) = .next t ∧ (t.sstate == .ready) = true) ∧
    (({ sUpRx 2 16 [1, 2] with bufLen := 1, img := [(0, 7)] } : State).Inv ∧
      ∃ t, step { sUpRx 2 16 [1, 2] with bufLen := 1, img := [(0, 7)] } = .next t ∧ (t.sstate == .ready) = true) :=
  ⟨⟨inv_queued witness_inv_switch (by decide) [], next_of_any (by decide)⟩,
    ⟨witness_inv_switch, next_of_any (by decide)⟩, ⟨witness_inv_awaiting, next_of_any (by decide)⟩,
    ⟨witness_inv_upRx, next_of_any (by decide)⟩⟩

theorem witness_RateChangesOnlyWhenDrained :
    (∃ t, step (sSwitch []) = .next t ∧ (t.baudSel != (sSwitch []).baudSel) = true) ∧
    (∃ t, step { sReset with agenda := [.host 0x1000000000] } = .next t ∧ (t.baudSel != sReset.baudSel) = true) :=
  ⟨next_of_any (by decide), next_of_any (by decide)⟩

theorem witness_TransmitsWholeFramesOnly : nextMove (sUpTx 1) ≠ .hwReset ∧
    ∃ t, step (sUpTx 1) = .next t ∧ (t.txLog.length == 13) = true :=
  ⟨by decide, next_of_any (by decide)⟩

theorem witness_ReceiveQueueDiscipline :
    (∃ t, step { sReady with agenda := [.dev 0x55] } = .next t ∧ (t.rxFifo != sReady.rxFifo) = true) ∧
    (∃ t, step (sRx .getversion (okBytes ++ [1])) = .next t ∧ (t.rxFifo == [1]) = true) ∧
    (∃ t, step (sSwitch [0x00]) = .next t ∧ (t.rxFifo != (sSwitch [0x00]).rxFifo) = true) :=
  ⟨next_of_any (by decide), next_of_any (by decide), next_of_any (by decide)⟩

theorem witness_ImageIsAppendOnly_grows :
    ({ sUpRx 2 16 [1, 2] with bufLen := 1, img := [(0, 7)] } : State).Inv ∧
    ∃ t, step { sUpRx 2 16 [1, 2] with bufLen := 1, img := [(0, 7)] } = .next t ∧
      (decide (1 ≤ t.bufLen.toNat)) = true :=
  ⟨witness_inv_upRx, next_of_any (by decide)⟩

theorem witness_ImageIsAppendOnly_shrinks :
    ({ sCaptured 259 2 with bufLen := 1, idx := 1, img := [(0, 7)], agenda := [.host 0x7000000000] } : State).Inv ∧
    ∃ t, step { sCaptured 259 2 with bufLen := 1, idx := 1, img := [(0, 7)], agenda := [.host 0x7000000000] } = .next t ∧
      (decide (t.bufLen.toNat < 1)) = true :=
  ⟨inv_scheduled witness_inv_captured _, next_of_any (by decide)⟩

/-- A failed SWITCH, a bad reply of exactly 13 bytes, and a reply one byte short. -/
theorem witness_CommandFailureClosesLink :
    ((sSwitch [0x00]).Inv ∧ (sSwitch [0x00]).mstep ≠ .idle ∧ (sSwitch [0x00]).sstate ≠ .uploading ∧
      nextMove (sSwitch [0x00]) = .ctrl ∧ (sSwitch [0x00]).mstep = .switch ∧ (sSwitch [0x00]).ctrl = 0 ∧
      ∃ t, step (sSwitch [0x00]) = .next t ∧ (t.err != .ok) = true) ∧
    ((sRx .capture (0x7F :: okBytes.drop 1)).Inv ∧ (sRx .capture (0x7F :: okBytes.drop 1)).mstep = .rx ∧
      (sRx .capture []).sstate ≠ .uploading ∧ 13 ≤ (sRx .capture (0x7F :: okBytes.drop 1)).rxFifo.length ∧
      ∃ t, step (sRx .capture (0x7F :: okBytes.drop 1)) = .next t ∧ (t.err != .ok) = true) ∧
    ((sRx .capture (okBytes.take 12)).Inv ∧ (sRx .capture (okBytes.take 12)).mstep = .rx ∧
      (sRx .capture (okBytes.take 12)).rxFifo.length < 13 ∧
      ∃ t, step (sRx .capture (okBytes.take 12)) = .next t ∧ (t.err != .ok) = true) :=
  ⟨⟨witness_inv_switch, by decide, by decide, by decide, by decide, by decide, next_of_any (by decide)⟩,
    ⟨inv_queued witness_inv_capture (by decide) _, by decide, by decide, by decide, next_of_any (by decide)⟩,
    ⟨inv_queued witness_inv_capture (by decide) _, by decide, by decide, next_of_any (by decide)⟩⟩

theorem witness_PacketFailureKeepsSession :
    ({ sUpRx 2 16 [1, 2] with bufLen := 1, img := [(0, 7)] } : State).Inv ∧
    nextMove { sUpRx 2 16 [1, 2] with bufLen := 1, img := [(0, 7)] } = .ctrl ∧
    ∃ t, step { sUpRx 2 16 [1, 2] with bufLen := 1, img := [(0, 7)] } = .next t ∧ (t.skipCount == 1) = true :=
  ⟨witness_inv_upRx, by decide, next_of_any (by decide)⟩

theorem witness_ConfigurationAndControlAreStable :
    (∃ t, step { sReady with agenda := [.writeCtrl 1] } = .next t ∧ (t.ctrl != sReady.ctrl) = true) ∧
    (∃ t, step { sReset with agenda := [.host 0x14000003E8] } = .next t ∧ (t.timeout != sReset.timeout) = true) :=
  ⟨next_of_any (by decide), next_of_any (by decide)⟩

theorem witness_ExpectedLengthRule : (1 : BitVec 16) ≠ (sCaptured 2048 2).packetCount ∧
    (2 : BitVec 16) = (sCaptured 2048 2).packetCount ∧
    (sCaptured 2048 2).totalBytes.toNat % pktSize (sCaptured 2048 2).pktSel = 0 ∧
    (sCaptured 2500 3).totalBytes.toNat % pktSize (sCaptured 2500 3).pktSel ≠ 0 := by decide

theorem witness_ExpectedLengthsAddUpToTotal :
    (1 ≤ (sCaptured 1 1).totalBytes.toNat ∧ (sCaptured 1 1).packetCount.toNat =
      ((sCaptured 1 1).totalBytes.toNat + pktSize (sCaptured 1 1).pktSel - 1) / pktSize (sCaptured 1 1).pktSel) ∧
    (sCaptured 2048 2).packetCount.toNat =
      ((sCaptured 2048 2).totalBytes.toNat + pktSize (sCaptured 2048 2).pktSel - 1) / pktSize (sCaptured 2048 2).pktSel := by
  decide

theorem witness_ConfigureRunSwitchesAfterReply :
    ∃ s : State, s.mstep = .idle ∧ s.sstate = .configuring ∧ s.linkOpen = true ∧ s.rxFifo = [] ∧
      decodeHcw 0x3700000002 = .configure 7 2 ∧
      s.agenda = [.host 0x3700000002, .ctrl] ++ devBytes okReply ++ [.ctrl, .ctrl] :=
  ⟨{ sOpened with agenda := [.host 0x3700000002, .ctrl] ++ devBytes okReply ++ [.ctrl, .ctrl] },
    by decide, by decide, by decide, by decide, by decide, rfl⟩

/-- Two packets of 256 and 3 bytes: the first stays unanswered, the second is answered. -/
theorem witness_UploadRunAssemblesAnsweredPackets :
    ∃ (s : State) (packets : List (Option (List Byte))),
      s.mstep = .idle ∧ s.sstate = .ready ∧ s.capValid = true ∧ s.linkOpen = true ∧ s.rxFifo = [] ∧
      1 ≤ packets.length ∧ s.packetCount.toNat = packets.length ∧
      (∀ (j : Nat) (d : List Byte), packets[j]? = some (some d) →
        d.length = expectedLength s (BitVec.ofNat 16 (j + 1))) ∧
      s.agenda = .host 0x7000000000 :: packets.flatMap packetMoves := by
  refine ⟨{ sCaptured 259 2 with
    pktSel := 0, agenda := .host 0x7000000000 :: [none, some [1, 2, 3]].flatMap packetMoves }, [none, some [1, 2, 3]],
    by decide, by decide, by decide, by decide, by decide, by decide, by decide, ?_, rfl⟩
  intro j d h
  match j with
  | 0 => simp at h
  | 1 =>
    simp only [List.getElem?_cons_succ, List.getElem?_cons_zero, Option.some.injEq] at h
    subst h
    decide
  | j + 2 => simp at h

end Sys2Proof.Tests
end

section
/-! PROOFS. What the decoder accepts is what the encoder builds: an accepted frame or window is the code of the
instruction read from it. -/

namespace Sys2Proof

/-- A command frame determines its opcode and its parameters (rule R144). -/
theorem frameOf_toList_injective {o o' : Byte} {p p' : Params}
    (h : (frameOf o p).toList = (frameOf o' p').toList) : o = o' ∧ p = p' := by
  simp only [frameOf_toList, List.cons.injEq, true_and, and_true] at h
  obtain ⟨ho, h0, h1, h2, h3, h4, h5, -⟩ := h
  refine ⟨ho, ?_⟩
  rw [← params_eq p, ← params_eq p', h0, h1, h2, h3, h4, h5]

theorem acceptSlots_eq_ok {p want : Params} {i j : Instr} :
    acceptSlots p want i = .ok j ↔ p = want ∧ WellFormed i = true ∧ i = j := by
  unfold acceptSlots
  by_cases hp : p = want
  · by_cases hi : WellFormed i = true <;> simp [hp, hi]
  · simp [hp]

/-- A frame that decodes as a wire command is the frame of the instruction read (rules R101, R106 to R110). -/
theorem encode_of_decodeCommand {c : Cfg} {k : WireCmd} {f : List Byte} {i : Instr}
    (h : decodeCommand c k f = .ok i) : encode c i = .command k f := by
  unfold decodeCommand at h
  extract_lets opc p at h
  clear_value opc p
  by_cases hf : f = (frameOf opc p).toList
  · by_cases ho : opc = c.opcode k
    · simp only [hf, ho, ne_eq, not_true_eq_false, if_false] at h
      have built (q : Params) (hq : p = q) : Code.command k (frameOf (c.opcode k) q).toList = .command k f := by
        rw [hf, ho, hq]
      cases k with
      | config =>
        dsimp only at h
        split at h
        · obtain ⟨hp, -, rfl⟩ := acceptSlots_eq_ok.mp h
          exact built _ hp
        · cases h
      | getversion | autofocus | capture | upload =>
        obtain ⟨hp, -, rfl⟩ := acceptSlots_eq_ok.mp h
        exact built _ hp
    · simp [hf, ho] at h
  · simp [hf] at h

theorem rsp13Bytes_eq_rspupBytes (st : Byte) (body : Params) (ck : Byte) :
    rsp13Bytes st body ck = rspupBytes st body [] ck := by
  simp [rsp13Bytes, rspupBytes]

/-- A window of at least 13 bytes whose header and tail are right is the upload reply of its own fields (rule R103). -/
theorem rspupBytes_of_fields {f : List Byte} (hl : 13 ≤ f.length) (hh : f.take 4 = frameHeader)
    (ht : f.getD (f.length - 1) 0 = frameTail) :
    rspupBytes (f.getD 4 0) #v[f.getD 5 0, f.getD 6 0, f.getD 7 0, f.getD 8 0, f.getD 9 0, f.getD 10 0]
      ((f.drop 11).take (f.length - 13)) (f.getD (f.length - 2) 0) = f := by
  match f, hl with
  | a0 :: a1 :: a2 :: a3 :: a4 :: a5 :: a6 :: a7 :: a8 :: a9 :: a10 :: r, hl =>
    simp only [List.length_cons] at hl
    obtain ⟨x, y, hr⟩ := List.length_eq_two.mp (show (r.drop (r.length - 2)).length = 2 by simp; omega)
    obtain ⟨m, rfl⟩ : ∃ m, r = m ++ [x, y] := ⟨r.take (r.length - 2), by rw [← hr, List.take_append_drop]⟩
    obtain ⟨rfl, rfl, rfl, rfl⟩ : a0 = 0x7E ∧ a1 = 0x00 ∧ a2 = 0x08 ∧ a3 = 0x00 := by simpa [frameHeader] using hh
    obtain rfl : y = frameTail := by simpa using ht
    simp [rspupBytes, frameHeader]

/-- A window that decodes as a received frame is the frame of the instruction read (rules R102, R103, R281). -/
theorem encode_of_decodeReply {c : Cfg} {f : List Byte} {i : Instr}
    (h : decodeReply f = .ok i) : encode c i = .reply f := by
  unfold decodeReply at h
  split at h
  · next hs =>
    obtain ⟨hl, ht⟩ := hs
    match f, hl, ht, h with
    | a0 :: a1 :: a2 :: a3 :: r, _, ht, h =>
      cases h
      simp only [List.take_succ_cons, List.take_zero, List.cons.injEq, and_true] at ht
      obtain ⟨rfl, rfl⟩ := ht
      rfl
  split at h
  · cases h
  next hl =>
  split at h
  · cases h
  next hh =>
  split at h
  · cases h
  next ht =>
  have hw := rspupBytes_of_fields (not_lt.mp hl) (not_not.mp hh) (not_not.mp ht)
  extract_lets six ck j at h
  split at h
  · obtain rfl : j = i := Except.ok.inj h
    by_cases h13 : f.length = 13
    · have hj : j = .rsp13 (f.getD 4 0) six ck := if_pos h13
      rw [hj, encode, rsp13Bytes_eq_rspupBytes]
      rw [h13, Nat.sub_self, List.take_zero, ← h13] at hw
      rw [hw]
    · have hj : j = .rspup (f.getD 4 0) six ((f.drop 11).take (f.length - 13)) ck := if_neg h13
      rw [hj, encode, hw]
  · cases h

end Sys2Proof
end

section
/-! PROOFS. What one step does: the fetch of CTRL, everything a CTRL step can do, and a step as the next move of the
schedule. Later proofs cite `ctrlMove_cases` and `step_eq_runMove` and do not unfold the sequencer. -/

namespace Sys2Proof.Machine

theorem wireOf_ne_upload (o : Op) : wireOf o ≠ some .upload := by
  cases o <;> simp [wireOf]

theorem fetchCommand_eq_ok {s : State} {i : Instr} :
    fetchCommand s = .ok i ↔
      ∃ k, wireOf s.op = some k ∧ decode s.cfg (.command k (frameOf s.opc s.p).toList) = .ok i := by
  unfold fetchCommand
  cases wireOf s.op with
  | none => simp
  | some k => simp

/-- An enabled wire command whose operands the command registers hold is CMD_TX (rule R172). -/
theorem sendCommand_of_registers {k : WireCmd} {s : State} (ht : s.mstep = .tx) (hu : s.sstate ≠ .uploading)
    (hw : wireOf s.op = some k) (ho : s.opc = s.cfg.opcode k) : sendCommand k s.p s = cmdTx s := by
  have hl : latch k s.p s = s := by rw [latch, ← ho]
  rw [sendCommand, if_pos ⟨ht, hu, hw⟩, hl]

/-- An enabled request is UP_TX with its operands (rule R224). -/
theorem exec_wUpload_of_enabled {j n : BitVec 16} {s : State} (ht : s.mstep = .tx) (hu : s.sstate = .uploading) :
    exec (.wUpload j n) s = .next (upTx j n s) :=
  congrArg _ (if_pos ⟨ht, hu⟩)

/-- While a read of its length is outstanding, a received frame is judged as the window of its bytes (rule R120). -/
theorem exec_of_window {c : Cfg} {i : Instr} {v : List Byte} {s : State} (he : encode c i = .reply v)
    (hr : s.mstep = .rx) (hl : v.length = readLen s) : exec i s = rxWindow v s := by
  cases i with
  | rsp13 | rspup | secFrame => cases he; exact if_pos ⟨hr, hl⟩
  | _ => cases he

theorem ctrlTx_of_uploading {s : State} (hu : s.sstate = .uploading) :
    ctrlTx s = exec (.wUpload s.idx s.packetCount) s :=
  if_pos hu

theorem ctrlTx_of_fetch {s : State} {i : Instr} (hu : s.sstate ≠ .uploading) (hf : fetchCommand s = .ok i) :
    ctrlTx s = exec i s := by
  rw [ctrlTx, if_neg hu, hf]

/-- Outside UPLOADING the TX step is CMD_TX, whether or not the frame of the command registers decodes: the instruction
it decodes to sends that same frame (rule R172). -/
theorem ctrlTx_eq_cmdTx {s : State} (ht : s.mstep = .tx) (hu : s.sstate ≠ .uploading) :
    ctrlTx s = .next (cmdTx s) := by
  cases hf : fetchCommand s with
  | error e => rw [ctrlTx, if_neg hu, hf]
  | ok i =>
    rw [ctrlTx_of_fetch hu hf]
    obtain ⟨k, hw, hd⟩ := fetchCommand_eq_ok.mp hf
    have he := encode_of_decodeCommand hd
    have sent (k' : WireCmd) (q : Params)
        (h : Code.command k' (frameOf (s.cfg.opcode k') q).toList = .command k (frameOf s.opc s.p).toList) :
        k' ≠ .upload ∧ sendCommand k' q s = cmdTx s := by
      obtain ⟨rfl, hl⟩ := Code.command.inj h
      obtain ⟨ho, rfl⟩ := frameOf_toList_injective hl
      exact ⟨fun hk => wireOf_ne_upload _ (hk ▸ hw), sendCommand_of_registers ht hu hw ho.symm⟩
    cases i with
    | wConfig b z => exact congrArg _ (sent .config _ he).2
    | wGetversion => exact congrArg _ (sent .getversion _ he).2
    | wAutofocus m v => exact congrArg _ (sent .autofocus _ he).2
    | wCapture r c f e => exact congrArg _ (sent .capture _ he).2
    | wUpload j n => exact absurd rfl (sent .upload _ he).1
    | _ => cases he

theorem ctrlRx_of_decode {s : State} {i : Instr} (hl : readLen s ≤ s.rxFifo.length)
    (hd : decode s.cfg (.reply (s.rxFifo.take (readLen s))) = .ok i) :
    ctrlRx s = exec i { s with rxFifo := s.rxFifo.drop (readLen s) } := by
  rw [ctrlRx, tReadExact_eq_some.mpr ⟨hl, rfl, rfl⟩]
  dsimp only
  rw [hd]

/-- Everything the RX step can do: a window is judged alike whether or not it decodes (rules R173, R174, R226). -/
theorem ctrlRx_cases {s : State} (hr : s.mstep = .rx) :
    (readLen s ≤ s.rxFifo.length ∧
      ctrlRx s = rxWindow (s.rxFifo.take (readLen s)) { s with rxFifo := s.rxFifo.drop (readLen s) }) ∨
    (s.rxFifo.length < readLen s ∧ ctrlRx s = .next (rxTimeout s)) := by
  rcases Nat.lt_or_ge s.rxFifo.length (readLen s) with hlt | hle
  · exact .inr ⟨hlt, by rw [ctrlRx, tReadExact_eq_none.mpr hlt]⟩
  · refine .inl ⟨hle, ?_⟩
    cases hd : decode s.cfg (.reply (s.rxFifo.take (readLen s))) with
    | error e =>
      rw [ctrlRx, tReadExact_eq_some.mpr ⟨hle, rfl, rfl⟩]
      dsimp only
      rw [hd]
    | ok i =>
      rw [ctrlRx_of_decode hle hd]
      exact exec_of_window (c := s.cfg) (encode_of_decodeReply hd) hr (List.length_take_of_le hle)

theorem ctrlMove_of_idle {s : State} (h : s.mstep = .idle) : ctrlMove s = .next s := by rw [ctrlMove, h]

theorem ctrlMove_of_tx {s : State} (h : s.mstep = .tx) : ctrlMove s = ctrlTx s := by rw [ctrlMove, h]

theorem ctrlMove_of_rx {s : State} (h : s.mstep = .rx) : ctrlMove s = ctrlRx s := by rw [ctrlMove, h]

theorem ctrlMove_of_switch {s : State} (h : s.mstep = .switch) : ctrlMove s = .next (switchStep s) := by
  rw [ctrlMove, h]

/-- Everything a CTRL step can do (rule R17). -/
theorem ctrlMove_cases (s : State) :
    (s.mstep = .idle ∧ ctrlMove s = .next s) ∨
    (s.mstep = .tx ∧ s.sstate = .uploading ∧ ctrlMove s = .next (upTx s.idx s.packetCount s)) ∨
    (s.mstep = .tx ∧ s.sstate ≠ .uploading ∧ ctrlMove s = .next (cmdTx s)) ∨
    (s.mstep = .rx ∧ readLen s ≤ s.rxFifo.length ∧
      ctrlMove s = rxWindow (s.rxFifo.take (readLen s)) { s with rxFifo := s.rxFifo.drop (readLen s) }) ∨
    (s.mstep = .rx ∧ s.rxFifo.length < readLen s ∧ ctrlMove s = .next (rxTimeout s)) ∨
    (s.mstep = .switch ∧ ctrlMove s = .next (switchStep s)) := by
  cases hm : s.mstep with
  | idle => exact .inl ⟨rfl, ctrlMove_of_idle hm⟩
  | tx =>
    rw [ctrlMove_of_tx hm]
    by_cases hu : s.sstate = .uploading
    · exact .inr (.inl ⟨rfl, hu, (ctrlTx_of_uploading hu).trans (exec_wUpload_of_enabled hm hu)⟩)
    · exact .inr (.inr (.inl ⟨rfl, hu, ctrlTx_eq_cmdTx hm hu⟩))
  | rx =>
    rw [ctrlMove_of_rx hm]
    rcases ctrlRx_cases hm with ⟨hl, he⟩ | ⟨hl, he⟩
    · exact .inr (.inr (.inr (.inl ⟨rfl, hl, hm ▸ he⟩)))
    · exact .inr (.inr (.inr (.inr (.inl ⟨rfl, hl, he⟩))))
  | switch => exact .inr (.inr (.inr (.inr (.inr ⟨rfl, ctrlMove_of_switch hm⟩))))

theorem step_of_agenda_nil {s : State} (h : s.agenda = []) : step s = ctrlMove s := by rw [step, runStep, h]

theorem step_of_agenda_cons {s : State} {m : Move} {rest : List Move} (h : s.agenda = m :: rest) :
    step s = runMove m { s with agenda := rest } := by
  rw [step, runStep, h]

/-- Every step makes the next move, in the state whose schedule is shorter by it (rule R17; log entry 1). -/
theorem step_eq_runMove (s : State) : step s = runMove (nextMove s) { s with agenda := s.agenda.tail } := by
  cases h : s.agenda with
  | nil =>
    have hs : { s with agenda := [] } = s := by rw [← h]
    rw [step_of_agenda_nil h, nextMove, h, List.tail_nil, hs]
    rfl
  | cons m rest =>
    rw [step_of_agenda_cons h, nextMove, h]
    rfl

/-- Settles O31: each clause is the step of the scheduled move, followed by the fetch CTRL makes at that micro-step. -/
theorem stepRunsDecodedInstruction : Obligations.StepRunsDecodedInstruction := by
  refine ⟨fun s w rest i ha hd => ?_, fun s rest i k ha ht hu hw hd => ?_, fun s rest ha ht hu => ?_,
    fun s rest i ha hr hl hd => ?_, fun s ha => step_of_agenda_nil ha⟩ <;> rw [step_of_agenda_cons ha]
  · rw [← Except.ok.inj hd]
    rfl
  · have hf : fetchCommand { s with agenda := rest } = .ok i := fetchCommand_eq_ok.mpr ⟨k, hw, hd⟩
    exact (ctrlMove_of_tx (s := { s with agenda := rest }) ht).trans (ctrlTx_of_fetch hu hf)
  · exact (ctrlMove_of_tx (s := { s with agenda := rest }) ht).trans (ctrlTx_of_uploading hu)
  · exact (ctrlMove_of_rx (s := { s with agenda := rest }) hr).trans (ctrlRx_of_decode hl hd)

end Sys2Proof.Machine
end

section
/-! PROOFS. The reset state, the code tables and the packet lengths. -/

namespace Sys2Proof.Machine

/-- The reset state is disconnected and idle, with an empty image, under every configuration (rules R49, R50, R340). -/
theorem resetWith_inv (c : Cfg) : (State.resetWith c).Inv where
  linkOpen_iff := by simp [State.resetWith]
  disconnected_quiet := fun _ => ⟨rfl, rfl⟩
  switch_state := fun h => by cases h
  busy_states := by simp [State.resetWith]
  upload_index := fun h => by cases h
  bufLen_bound := Nat.zero_le _
  skip_bound := Nat.zero_le _
  busy_op := fun h => absurd rfl h
  tx_opcode := fun h => by cases h
  rx_need := fun h => by cases h
  upload_bufLen := fun h => by cases h
  upload_skip := fun h => by cases h
  img_addresses := rfl

/-- The open code tables take distinct bytes through a permutation, so they are injective (rule R9; log entry 18). -/
theorem config_wf : Config.cfg.wf := by
  constructor
  · show ([0, 1, 2, 3, 4, 5, 6, 7].map Config.baudPerm).Nodup
    exact List.Nodup.map Config.baudPerm.injective (by decide)
  · show ([0, 1, 2, 3].map Config.pktPerm).Nodup
    exact List.Nodup.map Config.pktPerm.injective (by decide)

/-- Settles O43, from `resetWith_inv` and `config_wf`. -/
theorem resetMeetsInvariant : Obligations.ResetMeetsInvariant :=
  ⟨fun c => ⟨resetWith_inv c, wf_nil⟩, config_wf⟩

/-- Settles O57: the three clauses are the branches of `expectedLength`, the range is `expectedLength_bounds`. -/
theorem expectedLengthRule : Obligations.ExpectedLengthRule := by
  refine ⟨fun s i => ⟨fun h => if_pos h, fun h h0 => ?_, fun h h0 => ?_, ?_⟩, by decide, by decide⟩
  · rw [expectedLength, if_neg (not_not.mpr h), if_pos h0]
  · rw [expectedLength, if_neg (not_not.mpr h), if_neg h0]
  · obtain ⟨hlow, hhigh, -⟩ := expectedLength_bounds s i
    exact ⟨hlow, hhigh⟩

end Sys2Proof.Machine
end

section
/-! PROOFS. The configuration, `ctrl` and `timeout`: what every operation keeps, and the three moves that write one. -/

namespace Sys2Proof.Machine

/-- Two states agree on the configuration and on the two registers that HOST alone sets (rules R9, R38, R41). -/
structure SameControls (s t : State) : Prop where
  cfg : t.cfg = s.cfg
  ctrl : t.ctrl = s.ctrl
  timeout : t.timeout = s.timeout

theorem SameControls.refl (s : State) : SameControls s s := ⟨rfl, rfl, rfl⟩

theorem SameControls.trans {s t u : State} (h : SameControls s t) (h' : SameControls t u) : SameControls s u :=
  ⟨h'.cfg.trans h.cfg, h'.ctrl.trans h.ctrl, h'.timeout.trans h.timeout⟩

theorem abort_sameControls (k : ErrKind) (s : State) : SameControls s (abort k s) := ⟨by simp, by simp, by simp⟩

theorem received_sameControls (v : List Byte) (n : Nat) (s : State) : SameControls s (received v n s) :=
  ⟨rfl, rfl, rfl⟩

theorem skip_sameControls (k : ErrKind) (s : State) : SameControls s (skip k s) := ⟨by simp, by simp, by simp⟩

theorem append_sameControls (d : List Byte) (s : State) : SameControls s (append d s) := ⟨by simp, by simp, by simp⟩

theorem cmdTx_sameControls (s : State) : SameControls s (cmdTx s) := ⟨by simp, by simp, by simp⟩

theorem upTx_sameControls (j n : BitVec 16) (s : State) : SameControls s (upTx j n s) := ⟨by simp, by simp, by simp⟩

theorem latch_sameControls (k : WireCmd) (q : Params) (s : State) : SameControls s (latch k q s) :=
  ⟨by simp, by simp, by simp⟩

theorem advance_sameControls (s : State) : SameControls s (advance s) := by
  rcases advance_cases s with ⟨-, h⟩ | ⟨-, h⟩ <;> rw [h] <;> exact ⟨rfl, rfl, rfl⟩

theorem upRx_sameControls (v : List Byte) (s : State) : SameControls s (upRx v s) := by
  have hr := received_sameControls v s.rxNeed.toNat s
  have skipped (k : ErrKind) : SameControls s (advance (skip k (received v s.rxNeed.toNat s))) :=
    (hr.trans (skip_sameControls k _)).trans (advance_sameControls _)
  rcases upRx_cases v s with ⟨k, -, h⟩ | ⟨r, -, ⟨k, -, h⟩ | ⟨-, h⟩⟩ <;> rw [h]
  · exact skipped k
  · exact skipped k
  · exact (hr.trans (append_sameControls _ _)).trans (advance_sameControls _)

theorem commit_sameControls {s t : State} (h : commit s = .next t) : SameControls s t := by
  rcases commit_cases s with ⟨-, hc⟩ | ⟨-, hc⟩ | ⟨-, hc⟩ | ⟨-, hc⟩ <;> rw [hc] at h <;> cases h <;>
    exact ⟨rfl, rfl, rfl⟩

theorem cmdRx_sameControls {v : List Byte} {s t : State} (h : cmdRx v s = .next t) : SameControls s t := by
  have hr := received_sameControls v 13 s
  have aborted (k : ErrKind) (hc : cmdRx v s = .next (abort k (received v 13 s))) : SameControls s t := by
    rw [hc] at h
    cases h
    exact hr.trans (abort_sameControls k _)
  rcases cmdRx_cases v s with
    ⟨k, -, hc⟩ | ⟨r, -, ⟨-, ⟨k, -, hc⟩ | ⟨n, m, -, hc⟩⟩ | ⟨-, ⟨k, -, hc⟩ | ⟨-, hc⟩⟩⟩
  · exact aborted k hc
  · exact aborted k hc
  · rw [hc] at h
    cases h
    exact hr.trans ⟨by simp, by simp, by simp⟩
  · exact aborted k hc
  · rw [hc] at h
    exact hr.trans (commit_sameControls h)

theorem rxWindow_sameControls {v : List Byte} {s t : State} (h : rxWindow v s = .next t) : SameControls s t := by
  unfold rxWindow at h
  split at h
  · cases h
    exact upRx_sameControls v s
  · exact cmdRx_sameControls h

theorem rxTimeout_sameControls (s : State) : SameControls s (rxTimeout s) := by
  have hr : SameControls s (tReadTimeout s) := ⟨rfl, rfl, rfl⟩
  rcases rxTimeout_cases s with ⟨-, h⟩ | ⟨-, h⟩ <;> rw [h]
  · exact (hr.trans (skip_sameControls _ _)).trans (advance_sameControls _)
  · exact hr.trans (abort_sameControls _ _)

theorem switchStep_sameControls (s : State) : SameControls s (switchStep s) := by
  rcases switchStep_cases s with ⟨-, h⟩ | ⟨-, h⟩ <;> rw [h]
  · exact abort_sameControls _ _
  · exact ⟨rfl, rfl, rfl⟩

/-- No CTRL step writes the configuration, `ctrl` or `timeout`. -/
theorem ctrlMove_sameControls {s t : State} (h : ctrlMove s = .next t) : SameControls s t := by
  rcases ctrlMove_cases s with ⟨-, hc⟩ | ⟨-, -, hc⟩ | ⟨-, -, hc⟩ | ⟨-, -, hc⟩ | ⟨-, -, hc⟩ | ⟨-, hc⟩ <;> rw [hc] at h
  · cases h; exact .refl s
  · cases h; exact upTx_sameControls _ _ s
  · cases h; exact cmdTx_sameControls s
  · exact .trans (t := { s with rxFifo := s.rxFifo.drop (readLen s) }) ⟨rfl, rfl, rfl⟩ (rxWindow_sameControls h)
  · cases h; exact rxTimeout_sameControls s
  · cases h; exact switchStep_sameControls s

/-- An issue keeps what its own effect keeps (rule R170): a rejection writes `err` only. -/
theorem issue_sameControls {o : Op} {r : Bool} {e : State → State} (he : ∀ s, SameControls s (e s)) (s : State) :
    SameControls s (issue o r e s) := by
  rcases issue_cases o r e s with ⟨-, h⟩ | ⟨-, -, h⟩ | ⟨-, -, -, h⟩ | ⟨-, -, -, h⟩ <;> rw [h]
  · exact .refl s
  · exact ⟨rfl, rfl, rfl⟩
  · exact ⟨rfl, rfl, rfl⟩
  · exact .trans (t := { s with err := .ok, op := o }) ⟨rfl, rfl, rfl⟩ (he _)

theorem uploadIssue_sameControls (s : State) : SameControls s (uploadIssue s) := by
  rcases uploadIssue_cases s with ⟨-, h⟩ | ⟨-, h⟩ <;> rw [h] <;> exact ⟨rfl, rfl, rfl⟩

theorem sendCommand_sameControls (k : WireCmd) (q : Params) (s : State) : SameControls s (sendCommand k q s) := by
  rcases sendCommand_cases k q s with ⟨-, h⟩ | ⟨-, h⟩ <;> rw [h]
  · exact (latch_sameControls k q s).trans (cmdTx_sameControls _)
  · exact .refl s

theorem receive_sameControls {v : List Byte} {s t : State} (h : receive v s = .next t) : SameControls s t := by
  unfold receive at h
  split at h
  · exact rxWindow_sameControls h
  · cases h
    exact .refl s

/-- Of all instructions only OPEN can write one of the three registers. -/
theorem exec_sameControls {i : Instr} {s t : State} (hi : ∀ b n, i ≠ .openOp b n) (h : exec i s = .next t) :
    SameControls s t := by
  cases i with
  | openOp b n => exact absurd rfl (hi b n)
  | closeOp | configure | getversion | autofocus | capture | reset =>
    cases h
    refine issue_sameControls (fun s => ?_) s
    exact ⟨rfl, rfl, rfl⟩
  | upload =>
    cases h
    exact issue_sameControls uploadIssue_sameControls s
  | hcwReserved code =>
    cases h
    split
    · exact .refl s
    · exact ⟨rfl, rfl, rfl⟩
  | wConfig | wGetversion | wAutofocus | wCapture =>
    cases h
    exact sendCommand_sameControls _ _ s
  | wUpload j n =>
    cases h
    split
    · exact upTx_sameControls j n s
    · exact .refl s
  | rsp13 | rspup => exact receive_sameControls h
  | secFrame o n q =>
    simp only [exec, execSecFrame] at h
    split at h
    · exact rxWindow_sameControls h
    · cases h

/-- OPEN writes `timeout` only where it is accepted: idle and DISCONNECTED (rules R41, R175). -/
theorem exec_openOp_controls {b : BitVec 3} {n : BitVec 32} {s t : State} (h : exec (.openOp b n) s = .next t) :
    SameControls s t ∨
      (s.mstep = .idle ∧ s.sstate = .disconnected ∧ t.cfg = s.cfg ∧ t.ctrl = s.ctrl ∧ t.timeout = n) := by
  simp only [exec, execOpen, Host.Outcome.next.injEq] at h
  subst h
  rcases issue_cases .openOp true _ s with ⟨-, h⟩ | ⟨-, -, h⟩ | ⟨-, -, -, h⟩ | ⟨hm, hl, -, h⟩ <;> rw [h]
  · exact .inl (.refl s)
  · exact .inl ⟨rfl, rfl, rfl⟩
  · exact .inl ⟨rfl, rfl, rfl⟩
  · exact .inr ⟨hm, beq_iff_eq.mp hl, by simp, by simp, by simp⟩

/-- Everything one move can do to the three registers (rules R9, R38, R41, R341). -/
theorem runMove_controls {m : Move} {s t : State} (h : runMove m s = .next t) :
    SameControls s t ∨
    (m = .hwReset ∧ t.cfg = s.cfg) ∨
    (s.mstep = .idle ∧ (∃ x, m = .writeCtrl x) ∧ t.cfg = s.cfg ∧ t.timeout = s.timeout) ∨
    (s.mstep = .idle ∧ s.sstate = .disconnected ∧ (∃ w b, m = .host w ∧ decodeHcw w = .openOp b t.timeout) ∧
      t.cfg = s.cfg ∧ t.ctrl = s.ctrl) := by
  cases m with
  | host w =>
    change exec (decodeHcw w) s = .next t at h
    by_cases ho : ∃ b n, decodeHcw w = .openOp b n
    · obtain ⟨b, n, ho⟩ := ho
      rw [ho] at h
      rcases exec_openOp_controls h with hs | ⟨hm, hd, hcfg, hctrl, ht⟩
      · exact .inl hs
      · exact .inr (.inr (.inr ⟨hm, hd, ⟨w, b, rfl, ht ▸ ho⟩, hcfg, hctrl⟩))
    · exact .inl (exec_sameControls (fun b n hw => ho ⟨b, n, hw⟩) h)
  | writeCtrl x =>
    cases h
    rcases writeCtrl_cases x s with ⟨-, hw⟩ | ⟨hm, hw⟩ <;> rw [hw]
    · exact .inl (.refl s)
    · exact .inr (.inr (.inl ⟨hm, ⟨x, rfl⟩, rfl, rfl⟩))
  | readReg r =>
    simp only [runMove, hostReadReg] at h
    split at h <;> cases h
    exact .inl ⟨rfl, rfl, rfl⟩
  | readImg a n =>
    cases h
    exact .inl ⟨rfl, rfl, rfl⟩
  | dev x =>
    cases h
    rcases devSend_cases x s with ⟨-, hd⟩ | ⟨-, hd⟩ <;> rw [hd] <;> exact .inl ⟨rfl, rfl, rfl⟩
  | ctrl => exact .inl (ctrlMove_sameControls h)
  | hwReset =>
    cases h
    exact .inr (.inl ⟨rfl, rfl⟩)

/-- Settles O56: the cases of `runMove_controls` for the move the step makes. -/
theorem configurationAndControlAreStable : Obligations.ConfigurationAndControlAreStable := by
  intro s t h
  rw [step_eq_runMove] at h
  rcases runMove_controls h with
    ⟨hcfg, hctrl, htime⟩ | ⟨hm, hcfg⟩ | ⟨hi, hx, hcfg, htime⟩ | ⟨hi, hd, ⟨w, b, hm, ho⟩, hcfg, hctrl⟩
  · exact ⟨hcfg, absurd hctrl, absurd htime⟩
  · exact ⟨hcfg, fun _ => .inl hm, fun _ => .inl hm⟩
  · exact ⟨hcfg, fun _ => .inr ⟨hi, hx⟩, absurd htime⟩
  · exact ⟨hcfg, absurd hctrl, fun _ => .inr ⟨w, b, hm, ho, hi, hd⟩⟩

end Sys2Proof.Machine
end

section
/-! PROOFS. Everything one move can do to the block, as one inversion lemma: later proofs take a step apart with
`step_effect` and do not unfold an instruction, a micro-step or an issue. -/

namespace Sys2Proof.Machine

/-- The bytes the outstanding read delivers once they are queued (rule R256). -/
def window (s : State) : List Byte := s.rxFifo.take (readLen s)

/-- The state in which the window of the outstanding read is judged: its bytes have left the queue, `RB` and `CK` hold
what DECODE leaves (rules R31, R33, R256). -/
def judged (s : State) : State :=
  received (window s) (readLen s) { s with rxFifo := s.rxFifo.drop (readLen s) }

section judgedFields

variable (s : State)

@[simp] theorem judged_sstate : (judged s).sstate = s.sstate := rfl
@[simp] theorem judged_mstep : (judged s).mstep = s.mstep := rfl
@[simp] theorem judged_op : (judged s).op = s.op := rfl
@[simp] theorem judged_err : (judged s).err = s.err := rfl
@[simp] theorem judged_baudSel : (judged s).baudSel = s.baudSel := rfl
@[simp] theorem judged_pktSel : (judged s).pktSel = s.pktSel := rfl
@[simp] theorem judged_linkOpen : (judged s).linkOpen = s.linkOpen := rfl
@[simp] theorem judged_capValid : (judged s).capValid = s.capValid := rfl
@[simp] theorem judged_totalBytes : (judged s).totalBytes = s.totalBytes := rfl
@[simp] theorem judged_packetCount : (judged s).packetCount = s.packetCount := rfl
@[simp] theorem judged_idx : (judged s).idx = s.idx := rfl
@[simp] theorem judged_bufLen : (judged s).bufLen = s.bufLen := rfl
@[simp] theorem judged_skipCount : (judged s).skipCount = s.skipCount := rfl
@[simp] theorem judged_npkt : (judged s).npkt = s.npkt := rfl
@[simp] theorem judged_img : (judged s).img = s.img := rfl
@[simp] theorem judged_rxFifo : (judged s).rxFifo = s.rxFifo.drop (readLen s) := rfl
@[simp] theorem judged_txLog : (judged s).txLog = s.txLog := rfl

end judgedFields

/-- Everything a move can do: the state it leads to, with the conditions under which it does so. A move that changes
nothing is `unchanged`; the others are named after what happens in the block. -/
inductive MoveEffect (s : State) : Move → State → Prop
  | unchanged (m : Move) : MoveEffect s m s
  -- HOST and DEV outside an issue, and the reset input
  | ctrlWritten (x : BitVec 32) : s.mstep = .idle → MoveEffect s (.writeCtrl x) { s with ctrl := x.extractLsb' 0 1 }
  | registerRead (r : Nat) (x : BitVec 32) : regRead s r = some x → MoveEffect s (.readReg r) { s with hostReg := x }
  | imageRead (a n : Nat) : MoveEffect s (.readImg a n) (hostReadImg a n s)
  | byteQueued (x : Byte) : s.linkOpen = true → MoveEffect s (.dev x) { s with rxFifo := s.rxFifo ++ [x] }
  | hardwareReset : MoveEffect s .hwReset (hardwareReset s)
  -- ISSUE (rule R170)
  | rejected (w : HostWord) (k : ErrKind) : s.mstep = .idle → k ≠ .ok → MoveEffect s (.host w) (reject k s)
  | opened (w : HostWord) (b : BitVec 3) (n : BitVec 32) : decodeHcw w = .openOp b n → s.mstep = .idle →
      s.sstate = .disconnected →
      MoveEffect s (.host w)
        { tOpen b n { s with err := .ok, op := .openOp } with capValid := false, sstate := .configuring }
  | closed (w : HostWord) : decodeHcw w = .closeOp → s.mstep = .idle →
      MoveEffect s (.host w)
        { tClose { s with err := .ok, op := .closeOp } with capValid := false, sstate := .disconnected }
  | configureIssued (w : HostWord) (b : BitVec 3) (z : BitVec 2) : decodeHcw w = .configure b z → s.mstep = .idle →
      s.sstate = .configuring →
      MoveEffect s (.host w)
        { latch .config (paramsConfig s.cfg b z) { s with err := .ok, op := .configure } with
          nbaud := b, npkt := z, mstep := .tx }
  | getversionIssued (w : HostWord) : decodeHcw w = .getversion → s.mstep = .idle → s.sstate = .ready →
      MoveEffect s (.host w)
        { latch .getversion paramsNone { s with err := .ok, op := .getversion } with mstep := .tx }
  | autofocusIssued (w : HostWord) (m : BitVec 2) (v : BitVec 16) : decodeHcw w = .autofocus m v → s.mstep = .idle →
      s.sstate = .ready → focusInRange m v = true →
      MoveEffect s (.host w)
        { latch .autofocus (paramsFocus (s.cfg.focus m) (focusValue m v)) { s with err := .ok, op := .autofocus } with
          sstate := .focusing, mstep := .tx }
  | captureIssued (w : HostWord) (r c f e : Byte) : decodeHcw w = .capture r c f e → s.mstep = .idle →
      s.sstate = .ready →
      MoveEffect s (.host w)
        { latch .capture (paramsCapture r c f e) { s with err := .ok, op := .capture } with
          capValid := false, bufLen := 0, img := [], sstate := .capturing, mstep := .tx }
  | resetIssued (w : HostWord) : decodeHcw w = .reset → s.mstep = .idle → s.sstate = .ready →
      MoveEffect s (.host w)
        { latch .config (paramsConfig s.cfg 4 s.cfg.defPkt) { s with err := .ok, op := .reset } with
          nbaud := 4, npkt := s.cfg.defPkt, sstate := .resetting, mstep := .tx }
  | emptyUpload (w : HostWord) : decodeHcw w = .upload → s.mstep = .idle → s.sstate = .ready → s.capValid = true →
      s.packetCount = 0 →
      MoveEffect s (.host w)
        { s with
          op := .upload, bufLen := 0, img := [], skipCount := 0, pktErr := .ok, idx := 0
          err := completionErr 0 s.totalBytes }
  | uploadStarted (w : HostWord) : decodeHcw w = .upload → s.mstep = .idle → s.sstate = .ready → s.capValid = true →
      s.packetCount ≠ 0 →
      MoveEffect s (.host w)
        { s with
          err := .ok, op := .upload, bufLen := 0, img := [], skipCount := 0, pktErr := .ok, idx := 1
          sstate := .uploading, mstep := .tx }
  -- CTRL on a command (rules R172 to R174, R185)
  | commandSent : s.mstep = .tx → s.sstate ≠ .uploading → MoveEffect s .ctrl (cmdTx s)
  | commandTimedOut : s.mstep = .rx → s.sstate ≠ .uploading → s.rxFifo.length < readLen s →
      MoveEffect s .ctrl (abort .timeout (tReadTimeout s))
  | replyFailed (k : ErrKind) : s.mstep = .rx → s.sstate ≠ .uploading → readLen s ≤ s.rxFifo.length → k ≠ .ok →
      MoveEffect s .ctrl (abort k (judged s))
  | captured (n : BitVec 24) (c : BitVec 16) : s.mstep = .rx → s.sstate ≠ .uploading →
      readLen s ≤ s.rxFifo.length → s.op = .capture → MoveEffect s .ctrl (commitCapture n c (judged s))
  | rateAgreed : s.mstep = .rx → s.sstate ≠ .uploading → readLen s ≤ s.rxFifo.length →
      s.op = .configure ∨ s.op = .reset →
      MoveEffect s .ctrl { judged s with pktSel := s.npkt, mstep := .switch }
  | versionRead : s.mstep = .rx → s.sstate ≠ .uploading → readLen s ≤ s.rxFifo.length → s.op = .getversion →
      MoveEffect s .ctrl { judged s with mstep := .idle }
  | focused : s.mstep = .rx → s.sstate ≠ .uploading → readLen s ≤ s.rxFifo.length → s.op = .autofocus →
      MoveEffect s .ctrl { judged s with sstate := .ready, mstep := .idle }
  | switchRefused : s.mstep = .switch → s.rxFifo ≠ [] → MoveEffect s .ctrl (abort .order s)
  | switched : s.mstep = .switch → s.rxFifo = [] →
      MoveEffect s .ctrl { s with baudSel := s.nbaud, sstate := .ready, mstep := .idle }
  -- CTRL on a packet (rules R224, R226, R229)
  | packetRequested : s.mstep = .tx → s.sstate = .uploading → MoveEffect s .ctrl (upTx s.idx s.packetCount s)
  | packetTimedOut : s.mstep = .rx → s.sstate = .uploading → s.rxFifo.length < readLen s →
      MoveEffect s .ctrl (advance (skip .timeout (tReadTimeout s)))
  | packetSkipped (k : ErrKind) : s.mstep = .rx → s.sstate = .uploading → readLen s ≤ s.rxFifo.length → k ≠ .ok →
      MoveEffect s .ctrl (advance (skip k (judged s)))
  | packetAppended : s.mstep = .rx → s.sstate = .uploading → readLen s ≤ s.rxFifo.length →
      MoveEffect s .ctrl (advance (append (((window s).drop 11).take (readLen s - 13)) (judged s)))

/-! ### The kinds a failed reply raises -/

theorem replyCheck_ne_ok {check : Bool} {v : List Byte} {n : Nat} {k : ErrKind}
    (h : replyCheck check v n = .error k) : k ≠ .ok := by
  rcases replyCheck_cases check v n with ⟨-, hc⟩ | ⟨-, -, -, hc⟩ | ⟨-, -, hc⟩ <;> rw [hc] at h <;> cases h <;> decide

theorem statusCheck_ne_ok {x : Byte} {k : ErrKind} (h : statusCheck x = .error k) : k ≠ .ok := by
  unfold statusCheck at h
  split at h <;> cases h
  decide

theorem decodeCapture_ne_ok {v : List Byte} {k : ErrKind} (h : decodeCapture v = .error k) : k ≠ .ok := by
  unfold decodeCapture at h
  split at h <;> cases h
  decide

/-! ### CTRL -/

theorem readLen_of_command {s : State} (h : s.sstate ≠ .uploading) : readLen s = 13 := if_neg h

theorem readLen_of_upload {s : State} (h : s.sstate = .uploading) : readLen s = s.rxNeed.toNat := if_pos h

/-- A completed read of a command's reply (rule R173). -/
theorem cmdRx_effect {s t : State} (hr : s.mstep = .rx) (hu : s.sstate ≠ .uploading)
    (hl : readLen s ≤ s.rxFifo.length)
    (h : cmdRx (window s) { s with rxFifo := s.rxFifo.drop (readLen s) } = .next t) : MoveEffect s .ctrl t := by
  have hj : received (window s) 13 { s with rxFifo := s.rxFifo.drop (readLen s) } = judged s := by
    rw [judged, readLen_of_command hu]
  rcases cmdRx_cases (window s) { s with rxFifo := s.rxFifo.drop (readLen s) } with
    ⟨k, hk, hc⟩ | ⟨r, -, ⟨ho, ⟨k, hk, hc⟩ | ⟨n, c, -, hc⟩⟩ | ⟨-, ⟨k, hk, hc⟩ | ⟨-, hc⟩⟩⟩ <;>
    rw [hc, hj] at h
  · cases h
    exact .replyFailed k hr hu hl (replyCheck_ne_ok hk)
  · cases h
    exact .replyFailed k hr hu hl (decodeCapture_ne_ok hk)
  · cases h
    exact .captured n c hr hu hl ho
  · cases h
    exact .replyFailed k hr hu hl (statusCheck_ne_ok hk)
  · rcases commit_cases (judged s) with ⟨ho, hc⟩ | ⟨ho, hc⟩ | ⟨ho, hc⟩ | ⟨-, hc⟩ <;> rw [hc] at h <;> cases h
    · exact .rateAgreed hr hu hl ho
    · exact .versionRead hr hu hl ho
    · exact .focused hr hu hl ho

/-- A completed read of a packet (rule R226). -/
theorem upRx_effect {s : State} (hr : s.mstep = .rx) (hu : s.sstate = .uploading)
    (hl : readLen s ≤ s.rxFifo.length) :
    MoveEffect s .ctrl (upRx (window s) { s with rxFifo := s.rxFifo.drop (readLen s) }) := by
  have hj : received (window s) s.rxNeed.toNat { s with rxFifo := s.rxFifo.drop (readLen s) } = judged s := by
    rw [judged, readLen_of_upload hu]
  rcases upRx_cases (window s) { s with rxFifo := s.rxFifo.drop (readLen s) } with
    ⟨k, hk, hc⟩ | ⟨r, -, ⟨k, hk, hc⟩ | ⟨-, hc⟩⟩ <;> rw [hc, hj]
  · exact .packetSkipped k hr hu hl (replyCheck_ne_ok hk)
  · exact .packetSkipped k hr hu hl (statusCheck_ne_ok hk)
  · rw [← readLen_of_upload hu]
    exact .packetAppended hr hu hl

theorem ctrlMove_effect {s t : State} (h : ctrlMove s = .next t) : MoveEffect s .ctrl t := by
  rcases ctrlMove_cases s with
    ⟨-, hc⟩ | ⟨ht, hu, hc⟩ | ⟨ht, hu, hc⟩ | ⟨hr, hl, hc⟩ | ⟨hr, hl, hc⟩ | ⟨hw, hc⟩ <;> rw [hc] at h
  · cases h
    exact .unchanged .ctrl
  · cases h
    exact .packetRequested ht hu
  · cases h
    exact .commandSent ht hu
  · unfold rxWindow at h
    split at h
    next hu =>
      cases h
      exact upRx_effect hr hu hl
    next hu => exact cmdRx_effect hr hu hl h
  · cases h
    rcases rxTimeout_cases s with ⟨hu, he⟩ | ⟨hu, he⟩ <;> rw [he]
    · exact .packetTimedOut hr hu hl
    · exact .commandTimedOut hr hu hl
  · cases h
    rcases switchStep_cases s with ⟨hf, he⟩ | ⟨hf, he⟩ <;> rw [he]
    · exact .switchRefused hw hf
    · exact .switched hw hf

/-! ### HOST -/

/-- The instructions a host command word can hold: the rows HOST issues (rules R114, R117). -/
def isHostOperation : Instr → Bool
  | .openOp _ _ | .closeOp | .configure _ _ | .getversion | .autofocus _ _ | .capture _ _ _ _ | .upload | .reset
  | .hcwReserved _ => true
  | .wConfig _ _ | .wGetversion | .wAutofocus _ _ | .wCapture _ _ _ _ | .wUpload _ _ | .rsp13 _ _ _ | .rspup _ _ _ _
  | .secFrame _ _ _ => false

theorem decodeHcw_isHostOperation (w : HostWord) : isHostOperation (decodeHcw w) = true := by
  unfold decodeHcw
  split <;> rfl

/-- An issue does nothing, rejects, or applies the operation's own effect to the accepted state (rule R170). -/
theorem issue_effect {o : Op} {r : Bool} {e : State → State} {s : State} {w : HostWord}
    (accepted : s.mstep = .idle → legal o s.sstate s.capValid = true → r = true →
      MoveEffect s (.host w) (e { s with err := .ok, op := o })) :
    MoveEffect s (.host w) (issue o r e s) := by
  rcases issue_cases o r e s with ⟨-, h⟩ | ⟨hm, -, h⟩ | ⟨hm, -, -, h⟩ | ⟨hm, hl, hr, h⟩ <;> rw [h]
  · exact .unchanged _
  · exact .rejected w .state hm (by decide)
  · exact .rejected w .param hm (by decide)
  · exact accepted hm hl hr

theorem exec_host_effect {w : HostWord} {i : Instr} {s t : State} (hd : decodeHcw w = i) (h : exec i s = .next t) :
    MoveEffect s (.host w) t := by
  have hop : isHostOperation i = true := hd ▸ decodeHcw_isHostOperation w
  cases i with
  | openOp b n =>
    cases h
    exact issue_effect fun hm hl _ => .opened w b n hd hm (beq_iff_eq.mp hl)
  | closeOp =>
    cases h
    exact issue_effect fun hm _ _ => .closed w hd hm
  | configure b z =>
    cases h
    exact issue_effect fun hm hl _ => .configureIssued w b z hd hm (beq_iff_eq.mp hl)
  | getversion =>
    cases h
    exact issue_effect fun hm hl _ => .getversionIssued w hd hm (beq_iff_eq.mp hl)
  | autofocus m v =>
    cases h
    exact issue_effect fun hm hl hr => .autofocusIssued w m v hd hm (beq_iff_eq.mp hl) hr
  | capture r c f e =>
    cases h
    exact issue_effect fun hm hl _ => .captureIssued w r c f e hd hm (beq_iff_eq.mp hl)
  | reset =>
    cases h
    exact issue_effect fun hm hl _ => .resetIssued w hd hm (beq_iff_eq.mp hl)
  | upload =>
    cases h
    refine issue_effect fun hm hl _ => ?_
    obtain ⟨hs, hv⟩ := Bool.and_eq_true_iff.mp hl
    rcases uploadIssue_cases { s with err := .ok, op := .upload } with ⟨hn, hi⟩ | ⟨hn, hi⟩ <;> rw [hi]
    · exact .emptyUpload w hd hm (beq_iff_eq.mp hs) hv hn
    · exact .uploadStarted w hd hm (beq_iff_eq.mp hs) hv hn
  | hcwReserved c =>
    cases h
    by_cases hm : s.mstep = .idle
    · rw [if_neg (by simp [busy, hm])]
      exact .rejected w .param hm (by decide)
    · rw [if_pos (by simp [busy, hm])]
      exact .unchanged _
  | _ => cases hop

/-! ### Any move, any step -/

/-- Whatever state a move answers, it is one of `MoveEffect`. -/
theorem runMove_effect {m : Move} {s t : State} (h : runMove m s = .next t) : MoveEffect s m t := by
  cases m with
  | host w => exact exec_host_effect rfl h
  | writeCtrl x =>
    cases h
    rcases writeCtrl_cases x s with ⟨-, hw⟩ | ⟨hm, hw⟩ <;> rw [hw]
    · exact .unchanged _
    · exact .ctrlWritten x hm
  | readReg r =>
    simp only [runMove, hostReadReg] at h
    split at h
    next x hx =>
      cases h
      exact .registerRead r x hx
    next => cases h
  | readImg a n =>
    cases h
    exact .imageRead a n
  | dev x =>
    cases h
    rcases devSend_cases x s with ⟨ho, hd⟩ | ⟨-, hd⟩ <;> rw [hd]
    · exact .byteQueued x ho
    · exact .unchanged _
  | ctrl => exact ctrlMove_effect h
  | hwReset =>
    cases h
    exact .hardwareReset

/-- Whatever state a step answers, it is an effect of the next move, in the state whose schedule is shorter by it. -/
theorem step_effect {s t : State} (h : step s = .next t) :
    MoveEffect { s with agenda := s.agenda.tail } (nextMove s) t :=
  runMove_effect (step_eq_runMove s ▸ h)

end Sys2Proof.Machine
end

section
/-! PROOFS. Every step keeps the invariant. A state that meets it is in one of three phases: at rest, at a command, or
at a packet of an upload; each effect of a move leads from a phase to a phase. -/

namespace Sys2Proof.Machine

/-- The account of the image: at most `idx` packets were added or skipped, and the image lists the addresses below
`buf_len` (R50 (f), (g), rules R44, R45). -/
structure Stored (s : State) : Prop where
  bufLen_bound : s.bufLen.toNat ≤ s.idx.toNat * 2048
  skip_bound : s.skipCount.toNat ≤ s.idx.toNat
  img_addresses : s.img.map Prod.fst = List.range s.bufLen.toNat

/-- No operation is in progress. -/
structure Resting (s : State) : Prop extends Stored s where
  idle : s.mstep = .idle
  session : (s.sstate = .disconnected ∧ s.linkOpen = false ∧ s.rxFifo = []) ∨
    ((s.sstate = .configuring ∨ s.sstate = .ready) ∧ s.linkOpen = true)

/-- An operation with one wire command is in progress (rule R113). -/
structure AtCommand (s : State) : Prop extends Stored s where
  busy : s.mstep ≠ .idle
  command : ∃ k, wireOf s.op = some k
  session : s.sstate = opState s.op
  link : s.linkOpen = true
  unfailed : s.err = .ok
  switching : s.mstep = .switch → s.op = .configure ∨ s.op = .reset
  opcode : s.mstep = .tx → ∀ k, wireOf s.op = some k → s.opc = s.cfg.opcode k
  need : s.mstep = .rx → s.rxNeed = 13

/-- An upload is in progress, at packet `idx` (R50 (e)). -/
structure InUpload (s : State) : Prop where
  operation : s.op = .upload
  session : s.sstate = .uploading
  link : s.linkOpen = true
  unfailed : s.err = .ok
  capture : s.capValid = true
  index_pos : 1 ≤ s.idx.toNat
  index_le : s.idx.toNat ≤ s.packetCount.toNat

/-- Packet `idx` of an upload is requested or awaited: it is not in the account yet (rule R228). -/
structure AtPacket (s : State) : Prop extends InUpload s where
  busy : s.mstep = .tx ∨ s.mstep = .rx
  bufLen_bound : s.bufLen.toNat ≤ (s.idx.toNat - 1) * 2048
  skip_bound : s.skipCount.toNat ≤ s.idx.toNat - 1
  img_addresses : s.img.map Prod.fst = List.range s.bufLen.toNat
  need : s.mstep = .rx → s.rxNeed.toNat = 13 + expectedLength s s.idx

/-! ### The invariant is the three phases -/

theorem wireOf_eq_some_cases {o : Op} {k : WireCmd} (h : wireOf o = some k) :
    o = .configure ∨ o = .getversion ∨ o = .autofocus ∨ o = .capture ∨ o = .reset := by
  cases o <;> simp_all [wireOf]

theorem AtCommand.op_cases {s : State} (h : AtCommand s) :
    s.op = .configure ∨ s.op = .getversion ∨ s.op = .autofocus ∨ s.op = .capture ∨ s.op = .reset :=
  wireOf_eq_some_cases h.command.choose_spec

theorem AtCommand.sstate_cases {s : State} (h : AtCommand s) :
    s.sstate = .configuring ∨ s.sstate = .ready ∨ s.sstate = .focusing ∨ s.sstate = .capturing ∨
      s.sstate = .resetting := by
  rw [h.session]
  rcases h.op_cases with ho | ho | ho | ho | ho <;> simp [ho, opState]

theorem AtCommand.not_uploading {s : State} (h : AtCommand s) : s.sstate ≠ .uploading := by
  rcases h.sstate_cases with hs | hs | hs | hs | hs <;> simp [hs]

theorem AtCommand.not_disconnected {s : State} (h : AtCommand s) : s.sstate ≠ .disconnected := by
  rcases h.sstate_cases with hs | hs | hs | hs | hs <;> simp [hs]

theorem Resting.not_uploading {s : State} (h : Resting s) : s.sstate ≠ .uploading := by
  rcases h.session with ⟨hs, -⟩ | ⟨hs | hs, -⟩ <;> simp [hs]

theorem AtPacket.stored {s : State} (h : AtPacket s) : Stored s where
  bufLen_bound := h.bufLen_bound.trans (Nat.mul_le_mul_right _ (Nat.sub_le _ _))
  skip_bound := h.skip_bound.trans (Nat.sub_le _ _)
  img_addresses := h.img_addresses

theorem Resting.inv {s : State} (h : Resting s) : s.Inv where
  linkOpen_iff := by rcases h.session with ⟨hs, hl, -⟩ | ⟨hs | hs, hl⟩ <;> simp [hs, hl]
  disconnected_quiet := by
    intro hd
    rcases h.session with ⟨-, -, hf⟩ | ⟨hs | hs, -⟩
    · exact ⟨h.idle, hf⟩
    · rw [hs] at hd; cases hd
    · rw [hs] at hd; cases hd
  switch_state := by simp [h.idle]
  busy_states := by rcases h.session with ⟨hs, -⟩ | ⟨hs | hs, -⟩ <;> simp [hs]
  upload_index := fun hu => absurd hu h.not_uploading
  bufLen_bound := h.bufLen_bound
  skip_bound := h.skip_bound
  busy_op := fun hb => absurd h.idle hb
  tx_opcode := by simp [h.idle]
  rx_need := by simp [h.idle]
  upload_bufLen := fun hu => absurd hu h.not_uploading
  upload_skip := fun hu => absurd hu h.not_uploading
  img_addresses := h.img_addresses

theorem AtCommand.inv {s : State} (h : AtCommand s) : s.Inv where
  linkOpen_iff := by simp [h.link, h.not_disconnected]
  disconnected_quiet := fun hd => absurd hd h.not_disconnected
  switch_state := by
    intro hw
    rw [h.session]
    rcases h.switching hw with ho | ho <;> simp [ho, opState]
  busy_states := fun _ => h.busy
  upload_index := fun hu => absurd hu h.not_uploading
  bufLen_bound := h.bufLen_bound
  skip_bound := h.skip_bound
  busy_op := by
    intro _
    have hs := h.session
    rcases h.op_cases with ho | ho | ho | ho | ho <;> simp_all [h.unfailed]
  tx_opcode := h.opcode
  rx_need := by
    intro hr
    rw [h.need hr, if_neg h.not_uploading]
    rfl
  upload_bufLen := fun hu => absurd hu h.not_uploading
  upload_skip := fun hu => absurd hu h.not_uploading
  img_addresses := h.img_addresses

theorem AtPacket.not_idle {s : State} (h : AtPacket s) : s.mstep ≠ .idle := by
  rcases h.busy with hm | hm <;> simp [hm]

theorem AtPacket.not_switch {s : State} (h : AtPacket s) : s.mstep ≠ .switch := by
  rcases h.busy with hm | hm <;> simp [hm]

theorem AtPacket.inv {s : State} (h : AtPacket s) : s.Inv where
  linkOpen_iff := by simp [h.link, h.session]
  disconnected_quiet := by simp [h.session]
  switch_state := fun hw => absurd hw h.not_switch
  busy_states := fun _ => h.not_idle
  upload_index := fun _ => ⟨h.capture, h.index_pos.trans h.index_le, h.index_pos, h.index_le⟩
  bufLen_bound := h.stored.bufLen_bound
  skip_bound := h.stored.skip_bound
  busy_op := by simp [h.operation, h.session, h.unfailed, opState]
  tx_opcode := by simp [h.operation, wireOf]
  rx_need := by
    intro hr
    rw [h.need hr, if_pos h.session]
  upload_bufLen := fun _ => h.bufLen_bound
  upload_skip := fun _ => h.skip_bound
  img_addresses := h.img_addresses

theorem State.Inv.stored {s : State} (h : s.Inv) : Stored s := ⟨h.bufLen_bound, h.skip_bound, h.img_addresses⟩

theorem State.Inv.link_of_session {s : State} {x : SState} (h : s.Inv) (hs : s.sstate = x)
    (hx : x ≠ .disconnected := by decide) : s.linkOpen = true :=
  h.linkOpen_iff.mpr (hs ▸ hx)

theorem State.Inv.resting {s : State} (h : s.Inv) (hm : s.mstep = .idle) : Resting s where
  toStored := h.stored
  idle := hm
  session := by
    have hb := fun hs => h.busy_states hs hm
    have hl := h.linkOpen_iff
    have hq := h.disconnected_quiet
    cases hs : s.sstate <;> simp_all

theorem State.Inv.atPacket {s : State} (h : s.Inv) (hu : s.sstate = .uploading) : AtPacket s := by
  have hm : s.mstep ≠ .idle := h.busy_states (by simp [hu])
  obtain ⟨h0, h1, h2, hs, he⟩ := h.busy_op hm
  obtain ⟨hc, -, hi, hn⟩ := h.upload_index hu
  exact
    { busy := by
        have hw := h.switch_state
        cases hm' : s.mstep <;> simp_all
      operation := by cases ho : s.op <;> simp_all [opState]
      session := hu
      link := h.link_of_session hu
      unfailed := he
      capture := hc
      index_pos := hi
      index_le := hn
      bufLen_bound := h.upload_bufLen hu
      skip_bound := h.upload_skip hu
      img_addresses := h.img_addresses
      need := fun hr => (h.rx_need hr).trans (if_pos hu) }

theorem State.Inv.atCommand {s : State} (h : s.Inv) (hm : s.mstep ≠ .idle) (hu : s.sstate ≠ .uploading) :
    AtCommand s := by
  obtain ⟨h0, h1, h2, hs, he⟩ := h.busy_op hm
  exact
    { toStored := h.stored
      busy := hm
      command := by cases ho : s.op <;> simp_all [opState, wireOf]
      session := hs
      link := h.linkOpen_iff.mpr fun hd => hm (h.disconnected_quiet hd).1
      unfailed := he
      switching := by
        intro hw
        have := h.switch_state hw
        cases ho : s.op <;> simp_all [opState]
      opcode := h.tx_opcode
      need := fun hr => BitVec.eq_of_toNat_eq ((h.rx_need hr).trans (if_neg hu)) }

/-! ### What the invariant does not speak of -/

/-- The invariant says nothing of `ctrl`, of the schedule, or of what HOST has read. -/
theorem inv_of_hostSide {s : State} (h : s.Inv) (c : BitVec 1) (l : List Move) (x : BitVec 32) (v : List Byte)
    (n : Nat) : ({ s with ctrl := c, agenda := l, hostReg := x, hostMem := v, draws := n } : State).Inv := by
  obtain ⟨⟨hlink, hquiet, hswitch, hbusy, hindex, hbuf, hskip⟩, hop, hopc, hneed, hupbuf, hupskip, himg⟩ := h
  exact ⟨⟨hlink, hquiet, hswitch, hbusy, hindex, hbuf, hskip⟩, hop, hopc, hneed, hupbuf, hupskip, himg⟩

/-- While the link is open, any bytes may be queued. -/
theorem inv_of_linkOpen {s : State} (h : s.Inv) (ho : s.linkOpen = true) (l : List Byte) :
    ({ s with rxFifo := l } : State).Inv := by
  have hd := h.linkOpen_iff.mp ho
  obtain ⟨⟨hlink, -, hswitch, hbusy, hindex, hbuf, hskip⟩, hop, hopc, hneed, hupbuf, hupskip, himg⟩ := h
  exact ⟨⟨hlink, fun hq => absurd hq hd, hswitch, hbusy, hindex, hbuf, hskip⟩, hop, hopc, hneed, hupbuf, hupskip, himg⟩

theorem Stored.congr {s t : State} (h : Stored s) (hi : t.idx = s.idx) (hb : t.bufLen = s.bufLen)
    (hk : t.skipCount = s.skipCount) (hm : t.img = s.img) : Stored t := by
  obtain ⟨hbuf, hskip, himg⟩ := h
  rw [← hi, ← hb, ← hk, ← hm] at *
  exact ⟨hbuf, hskip, himg⟩

theorem Stored.judged {s : State} (h : Stored s) : Stored (judged s) := h.congr rfl rfl rfl rfl

/-! ### Effects that lead to rest or to a command -/

/-- An abort leaves the block at rest, disconnected (rule R310). -/
theorem Stored.abort_resting {s : State} (h : Stored s) (k : ErrKind) : Resting (abort k s) where
  toStored := h.congr (by simp) (by simp) (by simp) (by simp)
  idle := by simp
  session := by simp

/-- An issued command is at its TX step, with its opcode latched (rules R28, R170). -/
theorem AtCommand.of_tx {s : State} {k : WireCmd} (h : Stored s) (hm : s.mstep = .tx) (hw : wireOf s.op = some k)
    (ho : s.opc = s.cfg.opcode k) (hs : s.sstate = opState s.op) (hl : s.linkOpen = true) (he : s.err = .ok) :
    AtCommand s where
  toStored := h
  busy := by simp [hm]
  command := ⟨k, hw⟩
  session := hs
  link := hl
  unfailed := he
  switching := by simp [hm]
  opcode := by
    intro _ k' hk'
    rw [hw] at hk'
    cases hk'
    exact ho
  need := by simp [hm]

theorem AtCommand.cmdTx {s : State} (h : AtCommand s) : AtCommand (cmdTx s) where
  toStored := h.toStored.congr (by simp) (by simp) (by simp) (by simp)
  busy := by simp
  command := by simpa using h.command
  session := by simpa using h.session
  link := by simpa using h.link
  unfailed := by simpa using h.unfailed
  switching := by simp
  opcode := by simp
  need := by simp

/-- A good reply to CONFIGURE or RESET leads to the SWITCH step (rules R184, R211). -/
theorem AtCommand.rateAgreed {s : State} (h : AtCommand s) (ho : s.op = .configure ∨ s.op = .reset) :
    AtCommand { judged s with pktSel := s.npkt, mstep := .switch } where
  toStored := h.toStored.congr rfl rfl rfl rfl
  busy := by simp
  command := h.command
  session := h.session
  link := h.link
  unfailed := h.unfailed
  switching := fun _ => ho
  opcode := by simp
  need := by simp

/-! ### Packets -/

/-- No payload is longer than the largest packet (rules R8, R223). -/
theorem expectedLength_le (s : State) (i : BitVec 16) : expectedLength s i ≤ 2048 :=
  have ⟨_, hle, hmax⟩ := expectedLength_bounds s i
  hle.trans hmax

/-- A 16-bit count below another does not wrap. -/
theorem toNat_add_one_of_lt {x y : BitVec 16} (h : x.toNat < y.toNat) : (x + 1).toNat = x.toNat + 1 := by
  bv_omega

/-- The payload of a whole upload reply has the expected length (rules R223, R230). -/
theorem AtPacket.payload_length {s : State} (h : AtPacket s) (hr : s.mstep = .rx) (hl : readLen s ≤ s.rxFifo.length) :
    (((window s).drop 11).take (readLen s - 13)).length = expectedLength s s.idx := by
  have hw : (window s).length = readLen s := List.length_take_of_le hl
  have hn : readLen s = 13 + expectedLength s s.idx := (readLen_of_upload h.session).trans (h.need hr)
  rw [List.length_take, List.length_drop, hw]
  omega

/-- Appending the payload of packet `idx` does not wrap `buf_len`, and keeps R50 (f). -/
theorem AtPacket.append_bufLen {s : State} (h : AtPacket s) {d : List Byte} (hd : d.length ≤ 2048) :
    (append d (judged s)).bufLen.toNat = s.bufLen.toNat + d.length ∧
      s.bufLen.toNat + d.length ≤ s.idx.toNat * 2048 := by
  have hb := h.bufLen_bound
  have hi := h.index_pos
  have hlt := s.idx.isLt
  have hle : s.bufLen.toNat + d.length ≤ s.idx.toNat * 2048 := by omega
  refine ⟨?_, hle⟩
  rw [Machine.append_bufLen, judged_bufLen, BitVec.toNat_add, BitVec.toNat_ofNat]
  omega

theorem AtPacket.skip_stored {s : State} (h : AtPacket s) (k : ErrKind) : Stored (skip k s) where
  bufLen_bound := h.stored.bufLen_bound
  skip_bound := by
    have hs := h.skip_bound
    have hi := h.index_pos
    rw [skip_skipCount, skip_idx, toNat_add_one_of_lt (y := s.idx) (by omega)]
    omega
  img_addresses := h.img_addresses

theorem AtPacket.append_stored {s : State} (h : AtPacket s) {d : List Byte} (hd : d.length ≤ 2048) :
    Stored (append d (judged s)) := by
  obtain ⟨hlen, hle⟩ := h.append_bufLen hd
  exact
    { bufLen_bound := hlen ▸ hle
      skip_bound := by simpa using h.stored.skip_bound
      img_addresses := by
        rw [hlen]
        exact write_addresses h.img_addresses d }

theorem InUpload.congr {s t : State} (h : InUpload s) (ho : t.op = s.op) (hs : t.sstate = s.sstate)
    (hl : t.linkOpen = s.linkOpen) (he : t.err = s.err) (hc : t.capValid = s.capValid) (hi : t.idx = s.idx)
    (hn : t.packetCount = s.packetCount) : InUpload t :=
  ⟨ho.trans h.operation, hs.trans h.session, hl.trans h.link, he.trans h.unfailed, hc.trans h.capture,
    hi ▸ h.index_pos, hi ▸ hn ▸ h.index_le⟩

/-- A packet that is skipped or appended is judged within the upload (rules R230, R232). -/
theorem InUpload.skip {s : State} (h : InUpload s) (k : ErrKind) : InUpload (skip k s) :=
  h.congr (by simp) (by simp) (by simp) (by simp) (by simp) (by simp) (by simp)

theorem InUpload.append {s : State} (h : InUpload s) (d : List Byte) : InUpload (append d s) :=
  h.congr (by simp) (by simp) (by simp) (by simp) (by simp) (by simp) (by simp)

theorem InUpload.judged {s : State} (h : InUpload s) : InUpload (judged s) :=
  h.congr (by simp) (by simp) (by simp) (by simp) (by simp) (by simp) (by simp)

theorem InUpload.tReadTimeout {s : State} (h : InUpload s) : InUpload (tReadTimeout s) :=
  h.congr (by simp) (by simp) (by simp) (by simp) (by simp) (by simp) (by simp)

/-- NEXT leads to the following packet, or to rest after the last one (rule R231). -/
theorem InUpload.advance_inv {s : State} (h : InUpload s) (hst : Stored s) : (advance s).Inv := by
  rcases advance_cases s with ⟨-, he⟩ | ⟨hn, he⟩ <;> rw [he]
  · exact Resting.inv ⟨hst.congr rfl rfl rfl rfl, rfl, .inr ⟨.inr rfl, h.link⟩⟩
  · have hlt : s.idx.toNat < s.packetCount.toNat :=
      lt_of_le_of_ne h.index_le fun hc => hn (BitVec.eq_of_toNat_eq hc)
    have hidx := toNat_add_one_of_lt hlt
    exact AtPacket.inv
      { operation := h.operation
        session := h.session
        link := h.link
        unfailed := h.unfailed
        capture := h.capture
        index_pos := hidx ▸ Nat.le_add_left 1 _
        index_le := hidx ▸ hlt
        busy := .inl rfl
        bufLen_bound := by
          rw [hidx]
          exact hst.bufLen_bound
        skip_bound := by
          rw [hidx]
          exact hst.skip_bound
        img_addresses := hst.img_addresses
        need := by simp }

theorem AtPacket.upTx {s : State} (h : AtPacket s) : AtPacket (upTx s.idx s.packetCount s) where
  operation := by simpa using h.operation
  session := by simpa using h.session
  link := by simpa using h.link
  unfailed := by simpa using h.unfailed
  capture := by simpa using h.capture
  index_pos := by simpa using h.index_pos
  index_le := by simpa using h.index_le
  busy := .inr (by simp)
  bufLen_bound := by simpa using h.bufLen_bound
  skip_bound := by simpa using h.skip_bound
  img_addresses := by simpa using h.img_addresses
  need := by
    intro _
    have he : expectedLength (Machine.upTx s.idx s.packetCount s) s.idx = expectedLength s s.idx :=
      expectedLength_congr (by simp) (by simp) (by simp) _
    have hle := expectedLength_le s s.idx
    rw [upTx_idx, he, upTx_rxNeed, BitVec.toNat_ofNat]
    omega

/-! ### Every step -/

/-- Every effect of a move leads from a phase of the invariant to a phase of it. -/
theorem MoveEffect.inv {s t : State} {m : Move} (e : MoveEffect s m t) (h : s.Inv) : t.Inv := by
  cases e with
  | unchanged => exact h
  | ctrlWritten x => exact inv_of_hostSide h _ s.agenda s.hostReg s.hostMem s.draws
  | registerRead r x => exact inv_of_hostSide h s.ctrl s.agenda x s.hostMem s.draws
  | imageRead a n => exact inv_of_hostSide h s.ctrl s.agenda s.hostReg _ _
  | byteQueued x ho => exact inv_of_linkOpen h ho _
  | hardwareReset => exact inv_of_hostSide (resetWith_inv s.cfg) _ s.agenda s.hostReg s.hostMem s.draws
  | rejected w k hm =>
    have hr := h.resting hm
    exact Resting.inv ⟨hr.toStored.congr rfl rfl rfl rfl, hm, hr.session⟩
  | opened w b n _ hm => exact Resting.inv ⟨h.stored.congr rfl rfl rfl rfl, hm, .inr ⟨.inl rfl, rfl⟩⟩
  | closed w _ hm => exact Resting.inv ⟨h.stored.congr rfl rfl rfl rfl, hm, .inl ⟨rfl, rfl, rfl⟩⟩
  | configureIssued w b z _ _ hs =>
    exact AtCommand.inv (.of_tx (h.stored.congr rfl rfl rfl rfl) rfl rfl rfl (hs.trans rfl) (h.link_of_session hs) rfl)
  | getversionIssued w _ _ hs =>
    exact AtCommand.inv (.of_tx (h.stored.congr rfl rfl rfl rfl) rfl rfl rfl (hs.trans rfl) (h.link_of_session hs) rfl)
  | autofocusIssued w m v _ _ hs | resetIssued w _ _ hs =>
    exact AtCommand.inv (.of_tx (h.stored.congr rfl rfl rfl rfl) rfl rfl rfl rfl (h.link_of_session hs) rfl)
  | captureIssued w r c f e _ _ hs =>
    exact AtCommand.inv (.of_tx ⟨Nat.zero_le _, h.skip_bound, rfl⟩ rfl rfl rfl rfl (h.link_of_session hs) rfl)
  | emptyUpload w _ hm hs _ _ =>
    exact Resting.inv ⟨⟨Nat.zero_le _, Nat.zero_le _, rfl⟩, hm, .inr ⟨.inr hs, h.link_of_session hs⟩⟩
  | uploadStarted w _ _ hs hc hn =>
    have hpos : 1 ≤ s.packetCount.toNat := Nat.pos_of_ne_zero fun h0 => hn (BitVec.eq_of_toNat_eq h0)
    exact AtPacket.inv ⟨⟨rfl, rfl, h.link_of_session hs, rfl, hc, le_rfl, hpos⟩, .inl rfl, Nat.zero_le _, Nat.zero_le _,
      rfl, by simp⟩
  | commandSent ht hu => exact (h.atCommand (by simp [ht]) hu).cmdTx.inv
  | commandTimedOut => exact (Stored.abort_resting (h.stored.congr rfl rfl rfl rfl) _).inv
  | replyFailed k => exact (h.stored.judged.abort_resting k).inv
  | captured n c hr hu =>
    have hc := h.atCommand (by simp [hr]) hu
    exact Resting.inv ⟨h.stored.congr rfl rfl rfl rfl, rfl, .inr ⟨.inr rfl, hc.link⟩⟩
  | rateAgreed hr hu _ ho => exact ((h.atCommand (by simp [hr]) hu).rateAgreed ho).inv
  | versionRead hr hu _ ho =>
    have hc := h.atCommand (by simp [hr]) hu
    have hs : s.sstate = .ready := hc.session.trans (by rw [ho]; rfl)
    exact Resting.inv ⟨h.stored.congr rfl rfl rfl rfl, rfl, .inr ⟨.inr hs, hc.link⟩⟩
  | focused hr hu _ _ =>
    have hc := h.atCommand (by simp [hr]) hu
    exact Resting.inv ⟨h.stored.congr rfl rfl rfl rfl, rfl, .inr ⟨.inr rfl, hc.link⟩⟩
  | switchRefused => exact (h.stored.abort_resting _).inv
  | switched hw _ =>
    have hl : s.linkOpen = true := h.linkOpen_iff.mpr (by rcases h.switch_state hw with hs | hs <;> simp [hs])
    exact Resting.inv ⟨h.stored.congr rfl rfl rfl rfl, rfl, .inr ⟨.inr rfl, hl⟩⟩
  | packetRequested _ hu => exact (h.atPacket hu).upTx.inv
  | packetTimedOut _ hu =>
    have hp := h.atPacket hu
    have hs := (hp.skip_stored .timeout).congr (t := skip .timeout (tReadTimeout s)) (by simp) (by simp) (by simp)
      (by simp)
    exact (hp.toInUpload.tReadTimeout.skip .timeout).advance_inv hs
  | packetSkipped k _ hu =>
    have hp := h.atPacket hu
    have hs := (hp.skip_stored k).congr (t := skip k (judged s)) (by simp) (by simp) (by simp) (by simp)
    exact (hp.toInUpload.judged.skip k).advance_inv hs
  | packetAppended hr hu hl =>
    have hp := h.atPacket hu
    have hs := hp.append_stored ((hp.payload_length hr hl).trans_le (expectedLength_le s s.idx))
    exact (hp.toInUpload.judged.append _).advance_inv hs

/-- Settles O44: `MoveEffect.inv` for the effect of the step. -/
theorem stepKeepsInvariant : Obligations.StepKeepsInvariant := fun s _ h hs =>
  (step_effect hs).inv (inv_of_hostSide h s.ctrl s.agenda.tail s.hostReg s.hostMem s.draws)

/-- A run of one step more that answers a next state steps to a state and runs on from it. -/
theorem run_succ_eq_next {M : Host.Core} {s t : M.State} {k : Nat} (h : M.run (k + 1) s = .next t) :
    ∃ u, M.step s = .next u ∧ M.run k u = .next t := by
  rw [Host.Core.run] at h
  split at h
  next u hu => exact ⟨u, hu, h⟩
  next => cases h
  next => cases h

/-- The invariant holds along every run, by induction on the number of steps (rule R50). -/
theorem run_inv {s t : State} {k : Nat} (h : s.Inv) (hr : Host.Core.run core k s = .next t) : t.Inv := by
  induction k generalizing s with
  | zero =>
    cases hr
    exact h
  | succ k ih =>
    obtain ⟨u, hu, hr⟩ := run_succ_eq_next hr
    exact ih (stepKeepsInvariant s u h hu) hr

/-- Settles O45: a run from reset, whose schedule the invariant does not speak of. -/
theorem everyRunIsConsistent : Obligations.EveryRunIsConsistent := fun c moves _ _ hr =>
  (run_inv (inv_of_hostSide (resetWith_inv c) _ moves _ _ _) hr).toConsistent

end Sys2Proof.Machine
end

section
/-! PROOFS. The register file as HOST reads it: the table of rule R49, register by register, and what HOST's accesses
leave alone. -/

namespace Sys2Proof.Machine

/-- The register file in the order of rule R49: 18 scalars, the vectors `P`, `TXF` and `RB`, four scalars. -/
def regTable (s : State) : List (BitVec 32) :=
  [(sstateCode s.sstate).setWidth 32, (mstepCode s.mstep).setWidth 32, (opCode s.op).setWidth 32,
    (errCode s.err).setWidth 32, s.ctrl.setWidth 32, s.baudSel.setWidth 32, s.pktSel.setWidth 32, s.timeout,
    (BitVec.ofBool s.linkOpen).setWidth 32, (BitVec.ofBool s.capValid).setWidth 32, s.totalBytes.setWidth 32,
    s.packetCount.setWidth 32, s.idx.setWidth 32, s.bufLen.setWidth 32, s.skipCount.setWidth 32,
    s.rb[4].setWidth 32, s.ck.setWidth 32, s.opc.setWidth 32] ++
  s.p.toList.map (·.setWidth 32) ++ s.txf.toList.map (·.setWidth 32) ++ s.rb.toList.map (·.setWidth 32) ++
  [s.rxNeed.setWidth 32, (errCode s.pktErr).setWidth 32, s.nbaud.setWidth 32, s.npkt.setWidth 32]

theorem regTable_length (s : State) : (regTable s).length = 54 := by simp [regTable]

/-- HOST reads the register file by number, and nothing beyond it (rules R21, R49). -/
theorem regRead_eq_getElem? (s : State) (r : Nat) : regRead s r = (regTable s)[r]? := by
  unfold regRead
  split
  case h_23 =>
    have hcases : (18 ≤ r ∧ r < 24) ∨ (24 ≤ r ∧ r < 37) ∨ (37 ≤ r ∧ r < 50) ∨ 54 ≤ r := by
      simp only [imp_false] at *
      omega
    simp only [regTable, List.getElem?_append, List.getElem?_map, List.length_append, List.length_map,
      Vector.length_toList, List.length_cons, List.length_nil]
    rcases hcases with hp | htx | hrb | hnone
    · simp (disch := omega) only [if_pos, if_neg]
    · simp (disch := omega) only [if_pos, if_neg]
    · simp (disch := omega) only [if_pos, if_neg]
    · simp (disch := omega) only [if_neg]
      refine (List.getElem?_eq_none ?_).symm
      simp only [List.length_cons, List.length_nil]
      omega
  case h_19 | h_20 | h_21 | h_22 => simp [regTable]
  all_goals rfl

theorem regRead_eq_none {s : State} {r : Nat} (h : regRead s r = none) : 54 ≤ r := by
  rwa [regRead_eq_getElem?, List.getElem?_eq_none_iff, regTable_length] at h

/-- A read of the image delivers the listed byte at every address below `buf_len` (rule R45). -/
theorem hostReadImg_getElem? {s : State} {a n j : Nat} {b : Byte} (hj : j < n) (ha : a + j < s.bufLen.toNat)
    (hb : s.img.read (a + j) = some b) : (hostReadImg a n s).hostMem[j]? = some b := by
  simp [hostReadImg, imgByte, hj, ha, hb]

/-- Settles O42: the codes of the enumerated registers case by case, then the two reads. -/
theorem hostReadsDeliverAndChangeNothing : Obligations.HostReadsDeliverAndChangeNothing := by
  intro s rest
  refine ⟨fun r => ?_, fun r x ha hx => ?_, fun a n ha => ?_⟩
  · rw [regRead_eq_getElem?, regTable]
    congr 15
    · cases s.sstate <;> rfl
    · cases s.mstep <;> rfl
    · cases s.op <;> rfl
    · cases s.err <;> rfl
    · cases s.linkOpen <;> rfl
    · cases s.capValid <;> rfl
    · cases s.pktErr <;> rfl
  · have hx' : regRead { s with agenda := rest } r = some x := hx
    rw [step_of_agenda_cons ha, runMove, hostReadReg, hx']
  · refine ⟨hostReadImg a n { s with agenda := rest }, step_of_agenda_cons ha, by simp [hostReadImg], ?_, rfl⟩
    exact fun j b hj hlt hb => hostReadImg_getElem? hj hlt hb

/-- Settles O41: the two cases of `writeCtrl_cases`. -/
theorem ctrlWriteTakesBitZero : Obligations.CtrlWriteTakesBitZero := by
  intro s x rest ha
  rw [step_of_agenda_cons ha, runMove]
  rcases writeCtrl_cases x { s with agenda := rest } with ⟨hb, hw⟩ | ⟨hi, hw⟩ <;> rw [hw]
  · exact ⟨fun h => absurd h hb, fun _ => rfl⟩
  · exact ⟨fun _ => rfl, fun h => absurd hi h⟩

/-- Settles O39: the reset row of each register in the table of rule R49. -/
theorem resetRegisterValues : Obligations.ResetRegisterValues := by
  intro c r hr
  rw [regRead_eq_getElem?]
  interval_cases r <;> rfl

end Sys2Proof.Machine
end

section
/-! PROOFS. What a step can do to the rate, to the receive queue and to the image, and that it always answers. -/

namespace Sys2Proof.Machine

/-! ### NEXT leaves the link and the image alone (rule R231) -/

@[simp] theorem advance_baudSel (s : State) : (advance s).baudSel = s.baudSel := by
  rcases advance_cases s with ⟨-, h⟩ | ⟨-, h⟩ <;> rw [h]

@[simp] theorem advance_rxFifo (s : State) : (advance s).rxFifo = s.rxFifo := by
  rcases advance_cases s with ⟨-, h⟩ | ⟨-, h⟩ <;> rw [h]

@[simp] theorem advance_img (s : State) : (advance s).img = s.img := by
  rcases advance_cases s with ⟨-, h⟩ | ⟨-, h⟩ <;> rw [h]

@[simp] theorem advance_bufLen (s : State) : (advance s).bufLen = s.bufLen := by
  rcases advance_cases s with ⟨-, h⟩ | ⟨-, h⟩ <;> rw [h]

/-! ### The rate -/

/-- The three moves that write `baud_sel` (rules R39, R86, R350). -/
theorem MoveEffect.rate {s t : State} {m : Move} (e : MoveEffect s m t) (hne : t.baudSel ≠ s.baudSel) :
    (m = .ctrl ∧ s.mstep = .switch ∧ s.rxFifo = [] ∧ t.rxFifo = [] ∧ t.baudSel = s.nbaud ∧ t.txLog = s.txLog) ∨
    (∃ w b n, m = .host w ∧ decodeHcw w = .openOp b n ∧ s.mstep = .idle ∧ s.sstate = .disconnected ∧
      t.baudSel = b ∧ t.rxFifo = [] ∧ t.txLog = s.txLog) ∨
    m = .hwReset := by
  cases e with
  | switched hw hf => exact .inl ⟨rfl, hw, hf, hf, rfl, rfl⟩
  | opened w b n hd hm hs => exact .inr (.inl ⟨w, b, n, rfl, hd, hm, hs, rfl, rfl, rfl⟩)
  | hardwareReset => exact .inr (.inr rfl)
  | _ => exact absurd (by simp [hostReadImg]) hne -- every other effect keeps the rate

/-- Settles O50, by `MoveEffect.rate`. -/
theorem rateChangesOnlyWhenDrained : Obligations.RateChangesOnlyWhenDrained := fun _ _ hs hne =>
  (step_effect hs).rate hne

/-! ### The receive queue -/

/-- Everything a move can do to a queue it does not leave alone (rules R46, R256, R257). -/
theorem MoveEffect.queue {s t : State} {m : Move} (e : MoveEffect s m t) (hne : t.rxFifo ≠ s.rxFifo) :
    (∃ x, m = .dev x ∧ s.linkOpen = true ∧ t.rxFifo = s.rxFifo ++ [x]) ∨
    (m = .ctrl ∧ s.mstep = .rx ∧ readLen s ≤ s.rxFifo.length ∧ t.rxFifo = s.rxFifo.drop (readLen s)) ∨
    (t.rxFifo = [] ∧
      ((∃ w, m = .host w ∧ s.mstep = .idle ∧ ((∃ b n, decodeHcw w = .openOp b n) ∨ decodeHcw w = .closeOp)) ∨
       (m = .ctrl ∧ s.mstep = .rx ∧ s.rxFifo.length < readLen s) ∨
       (m = .ctrl ∧ t.sstate = .disconnected ∧ t.linkOpen = false ∧ t.err ≠ .ok) ∨
       m = .hwReset)) := by
  cases e with
  | byteQueued x ho => exact .inl ⟨x, rfl, ho, rfl⟩
  | captured n c hr hu hl | rateAgreed hr hu hl | versionRead hr hu hl | focused hr hu hl | packetSkipped k hr hu hl
  | packetAppended hr hu hl => exact .inr (.inl ⟨rfl, hr, hl, by simp⟩)
  | opened w b n hd hm => exact .inr (.inr ⟨rfl, .inl ⟨w, rfl, hm, .inl ⟨b, n, hd⟩⟩⟩)
  | closed w hd hm => exact .inr (.inr ⟨rfl, .inl ⟨w, rfl, hm, .inr hd⟩⟩)
  | commandTimedOut hr hu hl | packetTimedOut hr hu hl => exact .inr (.inr ⟨by simp, .inr (.inl ⟨rfl, hr, hl⟩)⟩)
  | replyFailed k hr hu hl hk =>
    exact .inr (.inr ⟨by simp, .inr (.inr (.inl ⟨rfl, by simp, by simp, by simpa using hk⟩))⟩)
  | switchRefused => exact .inr (.inr ⟨by simp, .inr (.inr (.inl ⟨rfl, by simp, by simp, by simp⟩))⟩)
  | hardwareReset => exact .inr (.inr ⟨rfl, .inr (.inr (.inr rfl))⟩)
  | _ => exact absurd (by simp [hostReadImg]) hne -- every other effect keeps the queue

/-- Settles O52, by `MoveEffect.queue`. -/
theorem receiveQueueDiscipline : Obligations.ReceiveQueueDiscipline := fun _ _ hs hne =>
  (step_effect hs).queue hne

/-! ### The image -/

/-- Everything a move can do to the image: nothing, empty it, or append a packet's payload (rules R44, R81, R230). -/
theorem MoveEffect.image {s t : State} {m : Move} (e : MoveEffect s m t) :
    (t.img = s.img ∧ t.bufLen = s.bufLen) ∨
    (t.img = [] ∧ t.bufLen = 0 ∧
      (m = .hwReset ∨ ∃ w, m = .host w ∧ s.mstep = .idle ∧ s.sstate = .ready ∧
        (decodeHcw w = .upload ∨ ∃ r c f e, decodeHcw w = .capture r c f e))) ∨
    (s.mstep = .rx ∧ s.sstate = .uploading ∧ readLen s ≤ s.rxFifo.length ∧
      t.img = (append (((window s).drop 11).take (readLen s - 13)) (judged s)).img ∧
      t.bufLen = (append (((window s).drop 11).take (readLen s - 13)) (judged s)).bufLen) := by
  cases e with
  | hardwareReset => exact .inr (.inl ⟨rfl, rfl, .inl rfl⟩)
  | captureIssued w r c f e hd hm hs => exact .inr (.inl ⟨rfl, rfl, .inr ⟨w, rfl, hm, hs, .inr ⟨r, c, f, e, hd⟩⟩⟩)
  | emptyUpload w hd hm hs | uploadStarted w hd hm hs => exact .inr (.inl ⟨rfl, rfl, .inr ⟨w, rfl, hm, hs, .inl hd⟩⟩)
  | packetAppended hr hu hl => exact .inr (.inr ⟨hr, hu, hl, advance_img _, advance_bufLen _⟩)
  | _ => exact .inl ⟨by simp [hostReadImg], by simp [hostReadImg]⟩ -- every other effect keeps the image

/-- Settles O46: an emptied memory is canonical, and a write keeps the form. -/
theorem stepKeepsMemoryCanonical : Obligations.StepKeepsMemoryCanonical := by
  intro s t hwf hs
  rcases (step_effect hs).image with ⟨hi, -⟩ | ⟨hi, -⟩ | ⟨-, -, -, hi, -⟩ <;> rw [hi]
  · exact hwf
  · exact wf_nil
  · exact write_wf hwf _ _

/-- A byte below `buf_len` survives every move that does not shorten the buffer: a payload is written behind it. -/
theorem MoveEffect.imgByte_eq {s t : State} {m : Move} (e : MoveEffect s m t)
    (hle : s.bufLen.toNat ≤ t.bufLen.toNat) {a : Nat} (ha : a < s.bufLen.toNat) : imgByte t a = imgByte s a := by
  have hat : a < t.bufLen.toNat := ha.trans_le hle
  rw [imgByte, imgByte, if_pos ha, if_pos hat]
  rcases e.image with ⟨hi, -⟩ | ⟨-, hb, -⟩ | ⟨-, -, -, hi, -⟩
  · rw [hi]
  · simp [hb] at hat
  · rw [hi]
    exact read_write_outside s.img (.inl ha)

/-- Only an accepted CAPTURE or UPLOAD or the reset shortens the buffer: `buf_len` of an upload does not wrap. -/
theorem MoveEffect.of_bufLen_lt {s t : State} {m : Move} (e : MoveEffect s m t) (h : s.Inv)
    (hlt : t.bufLen.toNat < s.bufLen.toNat) :
    m = .hwReset ∨ ∃ w, m = .host w ∧ s.mstep = .idle ∧ s.sstate = .ready ∧
      (decodeHcw w = .upload ∨ ∃ r c f e, decodeHcw w = .capture r c f e) := by
  rcases e.image with ⟨-, hb⟩ | ⟨-, -, hcause⟩ | ⟨hr, hu, hl, -, hb⟩
  · exact absurd (hb ▸ hlt) (lt_irrefl _)
  · exact hcause
  · have hp := h.atPacket hu
    have hmax := (hp.payload_length hr hl).trans_le (expectedLength_le s s.idx)
    rw [hb, (hp.append_bufLen hmax).1] at hlt
    omega

/-- Settles O53, by `MoveEffect.imgByte_eq` and `MoveEffect.of_bufLen_lt`. -/
theorem imageIsAppendOnly : Obligations.ImageIsAppendOnly := by
  intro s t h hs
  have hinv := inv_of_hostSide h s.ctrl s.agenda.tail s.hostReg s.hostMem s.draws
  exact ⟨fun hle a ha => (step_effect hs).imgByte_eq hle ha, fun hlt => (step_effect hs).of_bufLen_lt hinv hlt⟩

/-! ### Progress -/

/-- A host command word always answers a next state (rule R170). -/
theorem exec_host_answers {i : Instr} (hi : isHostOperation i = true) (s : State) : ∃ t, exec i s = .next t := by
  cases i with
  | openOp | closeOp | configure | getversion | autofocus | capture | upload | reset | hcwReserved => exact ⟨_, rfl⟩
  | _ => cases hi

/-- A window that a command awaits is answered: the operation in progress has a commit (rule R173). -/
theorem AtCommand.cmdRx_answers {s : State} (h : AtCommand s) (v : List Byte) : ∃ t, cmdRx v s = .next t := by
  rcases cmdRx_cases v s with ⟨k, -, hc⟩ | ⟨r, -, ⟨-, ⟨k, -, hc⟩ | ⟨n, c, -, hc⟩⟩ | ⟨hne, ⟨k, -, hc⟩ | ⟨-, hc⟩⟩⟩
  · exact ⟨_, hc⟩
  · exact ⟨_, hc⟩
  · exact ⟨_, hc⟩
  · exact ⟨_, hc⟩
  · rw [hc]
    rcases commit_cases (received v 13 s) with ⟨-, hn⟩ | ⟨-, hn⟩ | ⟨-, hn⟩ | ⟨hnone, -⟩
    · exact ⟨_, hn⟩
    · exact ⟨_, hn⟩
    · exact ⟨_, hn⟩
    · have hop : (received v 13 s).op = s.op := rfl
      rw [hop] at hnone
      rcases h.op_cases with ho | ho | ho | ho | ho <;> simp [ho] at hnone hne

theorem ctrlMove_answers {s : State} (h : s.Inv) : ∃ t, ctrlMove s = .next t := by
  rcases ctrlMove_cases s with ⟨-, hc⟩ | ⟨-, -, hc⟩ | ⟨-, -, hc⟩ | ⟨hr, hl, hc⟩ | ⟨-, -, hc⟩ | ⟨-, hc⟩
  · exact ⟨_, hc⟩
  · exact ⟨_, hc⟩
  · exact ⟨_, hc⟩
  · rw [hc, rxWindow]
    split
    next => exact ⟨_, rfl⟩
    next hu =>
      have hlink : s.linkOpen = true := (h.atCommand (by simp [hr]) hu).link
      exact ((inv_of_linkOpen h hlink _).atCommand (by simp [hr]) hu).cmdRx_answers _
  · exact ⟨_, hc⟩
  · exact ⟨_, hc⟩

/-- Only a HOST read of a register that rule R49 does not list is refused (rule R356; log entry 14). -/
theorem runMove_answers {s : State} (h : s.Inv) (m : Move) :
    (∃ t, runMove m s = .next t) ∨ (∃ r, 54 ≤ r ∧ m = .readReg r ∧ runMove m s = .refused (.noSuchRegister r)) := by
  cases m with
  | host w => exact .inl (exec_host_answers (decodeHcw_isHostOperation w) s)
  | readReg r =>
    cases hx : regRead s r with
    | some x => exact .inl ⟨_, by rw [runMove, hostReadReg, hx]⟩
    | none => exact .inr ⟨r, regRead_eq_none hx, rfl, by rw [runMove, hostReadReg, hx]⟩
  | ctrl => exact .inl (ctrlMove_answers h)
  | writeCtrl | readImg | dev | hwReset => exact .inl ⟨_, rfl⟩

/-- Settles O47, by `runMove_answers` for the next move. -/
theorem stepNeverStops : Obligations.StepNeverStops := by
  intro s h
  rw [step_eq_runMove]
  exact runMove_answers (inv_of_hostSide h s.ctrl s.agenda.tail s.hostReg s.hostMem s.draws) (nextMove s)

end Sys2Proof.Machine
end

section
/-! PROOFS. The wire history: a move writes nothing to it, or one whole frame at the current rate. -/

namespace Sys2Proof.Machine

@[simp] theorem advance_txLog (s : State) : (advance s).txLog = s.txLog := by
  rcases advance_cases s with ⟨-, h⟩ | ⟨-, h⟩ <;> rw [h]

/-- Only the two TX steps of CTRL write the wire history, and each goes on to await the reply (rules R79, R254). -/
theorem MoveEffect.wire {s t : State} {m : Move} (e : MoveEffect s m t) (hm : m ≠ .hwReset) :
    t.txLog = s.txLog ∨
    (s.mstep = .tx ∧ t.mstep = .rx ∧ m = .ctrl ∧
      ∃ o q, t.txLog = s.txLog ++ (frameOf o q).toList.map (fun x => (s.baudSel, x))) := by
  cases e with
  | commandSent ht => exact .inr ⟨ht, by simp, rfl, s.opc, s.p, by simp⟩
  | packetRequested ht =>
    exact .inr ⟨ht, by simp, rfl, s.cfg.opcode .upload, paramsUpload s.idx s.packetCount, by simp⟩
  | hardwareReset => exact absurd rfl hm
  | _ => exact .inl (by simp [hostReadImg]) -- every other effect keeps the history

/-- Settles O51, by `MoveEffect.wire`. -/
theorem transmitsWholeFramesOnly : Obligations.TransmitsWholeFramesOnly := fun _ _ hs hm =>
  (step_effect hs).wire hm

end Sys2Proof.Machine
end

section
/-! PROOFS. The reply of a command: the window CMD_RX judges, and what it does with a window that is no frame and with
one that is accepted. -/

namespace Sys2Proof.Machine

/-- A command's read takes the oldest 13 bytes, and CMD_RX judges them (rules R173, R256). -/
theorem ctrlMove_of_reply {s : State} {v rest : List Byte} (hr : s.mstep = .rx) (hu : s.sstate ≠ .uploading)
    (hf : s.rxFifo = v ++ rest) (hv : v.length = 13) : ctrlMove s = cmdRx v { s with rxFifo := rest } := by
  have hn : readLen s = v.length := (readLen_of_command hu).trans hv.symm
  rcases ctrlRx_cases hr with ⟨-, hc⟩ | ⟨hlt, -⟩
  · rw [ctrlMove_of_rx hr, hc, rxWindow, if_neg hu, hn, hf, List.take_left, List.drop_left]
  · rw [hn, hf, List.length_append] at hlt
    omega

/-- A 13-byte window is its own envelope (rule R31). -/
theorem envelope_toList {v : List Byte} (hv : v.length = 13) : (envelope v).toList = v := by
  match v, hv with
  | [_, _, _, _, _, _, _, _, _, _, _, _, _], _ => rfl

/-- A window that fails the header or the tail check aborts before any sum is computed (rules R145, R173, R301). -/
theorem cmdRx_of_bad_envelope {v : List Byte} (he : envelopeOk v 13 = false) (s : State) :
    cmdRx v s = .next (abort .malformed { s with rb := envelope v }) := by
  have hck : received v 13 s = { s with rb := envelope v } := by simp [received, replyCk, he]
  have hbad : replyCheck (rxck s) v 13 = .error .malformed := by simp [replyCheck, he]
  rcases cmdRx_cases v s with ⟨k, hk, hc⟩ | ⟨r, hk, -⟩ <;> rw [hbad] at hk <;> cases hk
  rw [hc, hck]

/-- A reply that passes DECODE with status zero is committed, unless CAPTURE still has to read its body (rule R173). -/
theorem cmdRx_of_accepted {v : List Byte} {s : State} {r : Reply} (hr : replyCheck (rxck s) v 13 = .ok r)
    (hst : r.status = 0) (hop : s.op ≠ .capture) : cmdRx v s = commit (received v 13 s) := by
  rcases cmdRx_cases v s with ⟨k, hk, -⟩ | ⟨r', hk, ⟨ho, -⟩ | ⟨-, ⟨k, hs, -⟩ | ⟨-, hc⟩⟩⟩
  · rw [hr] at hk
    cases hk
  · exact absurd ho hop
  · rw [hr] at hk
    cases hk
    simp [statusCheck, hst] at hs
  · exact hc

/-- Settles O33: the window fails `envelopeOk`, and the abort keeps the `RB` that holds it. -/
theorem malformedWindowAborts : Obligations.MalformedWindowAborts := by
  intro s v rest hr hu hf hv hbad
  have he : envelopeOk v 13 = false := by
    rcases hbad with hh | ht
    · simp only [envelopeOk, frameHeader, beq_eq_false_iff_ne.mpr hh, Bool.and_false, Bool.false_and]
    · simp only [envelopeOk, frameTail, beq_eq_false_iff_ne.mpr ht, Bool.and_false]
  refine ⟨abort .malformed { s with rxFifo := rest, rb := envelope v }, ?_, ?_, ?_⟩
  · rw [ctrlMove_of_reply hr hu hf hv, cmdRx_of_bad_envelope he]
  · rw [abort_rb, envelope_toList hv]
  · simp only [abort, disconnect, tClose, reject]

end Sys2Proof.Machine
end

section
/-! PROOFS. Runs move by move, and the run of CONFIGURE: the four steps of CTRL and HOST it consists of, with the bytes
of the camera between them. -/

namespace Sys2Proof.Machine

/-- A step, and the run that follows it. -/
theorem run_of_step {s u t : State} {k : Nat} (h : step s = .next u) (hr : Host.Core.run core k u = .next t) :
    Host.Core.run core (k + 1) s = .next t := by
  have hc : core.step s = .next u := h
  simp only [Host.Core.run, hc, hr]

/-- While the link is open, the bytes DEV sends join the queue in their order, and the run goes on (rule R262). -/
theorem run_of_devBytes {s t : State} {l : List Byte} {rest : List Move} {k : Nat} (ho : s.linkOpen = true)
    (ha : s.agenda = devBytes l ++ rest)
    (hr : Host.Core.run core k { s with agenda := rest, rxFifo := s.rxFifo ++ l } = .next t) :
    Host.Core.run core (k + l.length) s = .next t := by
  induction l generalizing s with
  | nil =>
    have hs : { s with agenda := rest, rxFifo := s.rxFifo ++ [] } = s := by
      cases s
      cases ha
      simp
    rwa [hs] at hr
  | cons x l ih =>
    have hstep : step s = .next { s with agenda := devBytes l ++ rest, rxFifo := s.rxFifo ++ [x] } :=
      (step_of_agenda_cons ha).trans (congrArg _ (if_pos ho))
    refine run_of_step hstep (ih (by exact ho) rfl ?_)
    simpa only [List.append_assoc, List.singleton_append] using hr

/-- The camera's good reply passes DECODE with status zero, checksum compared or not (rules R102, R145). -/
theorem replyCheck_okReply (check : Bool) :
    replyCheck check okReply 13 = .ok { status := 0, body := paramsNone.toList } := by
  cases check <;> decide

/-- An accepted CONFIGURE latches its frame and keeps its operands for later (rule R181). -/
theorem step_configure {s : State} {w : HostWord} {b : BitVec 3} {z : BitVec 2} {rest : List Move}
    (ha : s.agenda = .host w :: rest) (hd : decodeHcw w = .configure b z) (hi : s.mstep = .idle)
    (hs : s.sstate = .configuring) :
    step s = .next
      { s with
        agenda := rest, err := .ok, op := .configure, opc := s.cfg.opcConfig, p := paramsConfig s.cfg b z
        nbaud := b, npkt := z, mstep := .tx } := by
  rw [step_of_agenda_cons ha, runMove, hd, exec, execConfigure, issue, busy, hi, hs]
  rfl

/-- The TX step of a command writes the frame of the command registers (rule R172). -/
theorem step_cmdTx {s : State} {rest : List Move} (ha : s.agenda = .ctrl :: rest) (ht : s.mstep = .tx)
    (hu : s.sstate ≠ .uploading) : step s = .next (cmdTx { s with agenda := rest }) := by
  rw [step_of_agenda_cons ha]
  exact (ctrlMove_of_tx (s := { s with agenda := rest }) ht).trans (ctrlTx_eq_cmdTx ht hu)

/-- A good reply to CONFIGURE commits the packet size and leaves the rate to the SWITCH step (rule R184). -/
theorem step_configure_reply {s : State} {rest : List Move} {tail : List Byte} (ha : s.agenda = .ctrl :: rest)
    (hr : s.mstep = .rx) (hu : s.sstate ≠ .uploading) (ho : s.op = .configure) (hf : s.rxFifo = okReply ++ tail) :
    step s = .next
      { received okReply 13 { s with agenda := rest, rxFifo := tail } with pktSel := s.npkt, mstep := .switch } := by
  rw [step_of_agenda_cons ha, runMove, ctrlMove_of_reply (s := { s with agenda := rest }) hr hu hf rfl,
    cmdRx_of_accepted (replyCheck_okReply _) rfl (by simp [ho]), commit]
  simp only [received, ho]

/-- With the queue drained the SWITCH step takes the new rate (rule R185). -/
theorem step_switch {s : State} {rest : List Move} (ha : s.agenda = .ctrl :: rest) (hw : s.mstep = .switch)
    (hf : s.rxFifo = []) :
    step s = .next { s with agenda := rest, baudSel := s.nbaud, sstate := .ready, mstep := .idle } := by
  rw [step_of_agenda_cons ha, runMove, ctrlMove_of_switch (s := { s with agenda := rest }) hw]
  rcases switchStep_cases { s with agenda := rest } with ⟨hne, -⟩ | ⟨-, h⟩
  · exact absurd hf hne
  · rw [h]

/-- How a CONFIGURE issued in `s` stands before its SWITCH step: the reply is read, the rate is still that of `s`, the
packet size is the new one, and the history has grown by the command's frame at the rate of `s` (rules R182, R184). -/
structure AwaitsSwitch (s : State) (b : BitVec 3) (z : BitVec 2) (t : State) : Prop where
  agenda : t.agenda = [.ctrl]
  mstep : t.mstep = .switch
  err : t.err = .ok
  linkOpen : t.linkOpen = true
  rxFifo : t.rxFifo = []
  nbaud : t.nbaud = b
  baudSel : t.baudSel = s.baudSel
  pktSel : t.pktSel = z
  txLog : t.txLog = s.txLog ++
    (frameOf s.cfg.opcConfig (paramsConfig s.cfg b z)).toList.map (fun x => (s.baudSel, x))

/-- Issue, TX step, the 13 bytes of the reply and RX step: 16 moves from an idle CONFIGURING state to SWITCH. -/
theorem run_configure {s : State} {w : HostWord} {b : BitVec 3} {z : BitVec 2} (hi : s.mstep = .idle)
    (hs : s.sstate = .configuring) (ho : s.linkOpen = true) (hf : s.rxFifo = []) (hd : decodeHcw w = .configure b z)
    (ha : s.agenda = [.host w, .ctrl] ++ devBytes okReply ++ [.ctrl, .ctrl]) :
    ∃ t, Host.Core.run core 16 s = .next t ∧ AwaitsSwitch s b z t := by
  have ha : s.agenda = .host w :: .ctrl :: (devBytes okReply ++ [.ctrl, .ctrl]) := by simpa using ha
  have hrun : Host.Core.run core (1 + okReply.length + 1 + 1) s = .next _ :=
    run_of_step (step_configure ha hd hi hs) <|
    run_of_step (step_cmdTx rfl rfl (by simp [hs])) <|
    run_of_devBytes (by simp [ho]) (cmdTx_agenda _) <|
    run_of_step (step_configure_reply (tail := []) rfl (by simp) (by simp [hs]) (by simp) (by simp [hf])) rfl
  refine ⟨_, hrun, ?_⟩
  constructor <;> simp [received, ho]

/-- Settles O59: the run to SWITCH keeps the old rate, and the SWITCH step, its queue drained, takes the new one. -/
theorem configureRunSwitchesAfterReply : Obligations.ConfigureRunSwitchesAfterReply := by
  intro s w b z hi hs ho hf hd ha
  obtain ⟨t, hrun, ht⟩ := run_configure hi hs ho hf hd ha
  exact ⟨t, _, hrun, ht.mstep, ht.baudSel, ht.pktSel, ht.txLog, step_switch ht.agenda ht.mstep ht.rxFifo,
    rfl, rfl, ht.err, ht.nbaud, ht.pktSel, ht.linkOpen, rfl, ht.rxFifo⟩

end Sys2Proof.Machine
end

section
/-! PROOFS. Host command words: where the decoder finds the fields of a word the encoder built, and which bits of a word
it reads. -/

namespace Sys2Proof

/-! ### The fields of a word (rule R104) -/

@[simp] theorem hcwOf_code (code : BitVec 4) (a : BitVec 3) (v : BitVec 32) :
    (hcwOf code a v).extractLsb' 36 4 = code :=
  calc (code ++ 0#1 ++ a ++ v).extractLsb' 36 4
    _ = (code ++ 0#1 ++ a).extractLsb' 4 4 := BitVec.extractLsb'_append_eq_of_le (by decide)
    _ = (code ++ 0#1).extractLsb' 1 4 := BitVec.extractLsb'_append_eq_of_le (by decide)
    _ = code := BitVec.extractLsb'_append_eq_left

/-- The operand beside the code: its low bits, as many as the operation has. -/
theorem hcwOf_operand {n : Nat} (hn : n ≤ 3) (code : BitVec 4) (a : BitVec 3) (v : BitVec 32) :
    (hcwOf code a v).extractLsb' 32 n = a.extractLsb' 0 n :=
  calc (code ++ 0#1 ++ a ++ v).extractLsb' 32 n
    _ = (code ++ 0#1 ++ a).extractLsb' 0 n := BitVec.extractLsb'_append_eq_of_le le_rfl
    _ = a.extractLsb' 0 n := BitVec.extractLsb'_append_eq_of_add_le (by omega)

/-- A field of the low 32 bits. -/
theorem hcwOf_low {k n : Nat} (hn : k + n ≤ 32) (code : BitVec 4) (a : BitVec 3) (v : BitVec 32) :
    (hcwOf code a v).extractLsb' k n = v.extractLsb' k n :=
  BitVec.extractLsb'_append_eq_of_add_le hn

/-- The operand bytes of CAPTURE, the resolution in the most significant one. -/
theorem operandBytes_fields (r k f e : Byte) :
    (r ++ k ++ f ++ e).extractLsb' 24 8 = r ∧ (r ++ k ++ f ++ e).extractLsb' 16 8 = k ∧
    (r ++ k ++ f ++ e).extractLsb' 8 8 = f ∧ (r ++ k ++ f ++ e).extractLsb' 0 8 = e := by
  have above {j : Nat} (hj : 8 ≤ j) : (r ++ k ++ f ++ e).extractLsb' j 8 = (r ++ k ++ f).extractLsb' (j - 8) 8 :=
    BitVec.extractLsb'_append_eq_of_le hj
  have above' {j : Nat} (hj : 8 ≤ j) : (r ++ k ++ f).extractLsb' j 8 = (r ++ k).extractLsb' (j - 8) 8 :=
    BitVec.extractLsb'_append_eq_of_le hj
  refine ⟨?_, ?_, ?_, BitVec.extractLsb'_append_eq_right⟩
  · exact (above (by decide)).trans ((above' (by decide)).trans BitVec.extractLsb'_append_eq_left)
  · exact (above (by decide)).trans ((above' (by decide)).trans BitVec.extractLsb'_append_eq_right)
  · exact (above (by decide)).trans BitVec.extractLsb'_append_eq_right

/-! ### The operation a code selects (rules R104, R117) -/

/-- A code that selects no operation is handed over as it stands. -/
theorem decodeHcw_reserved {w : HostWord} (h : w.extractLsb' 36 4 = 0 ∨ 9 ≤ (w.extractLsb' 36 4).toNat) :
    decodeHcw w = .hcwReserved (w.extractLsb' 36 4) := by
  have hn : (w.extractLsb' 36 4).toNat = 0 ∨ 9 ≤ (w.extractLsb' 36 4).toNat := h.imp_left (congrArg BitVec.toNat)
  unfold decodeHcw
  split
  case h_9 => rfl
  all_goals omega

/-- Settles O4: a code from 1 to 8 is its own arm of the decoder, any other is `decodeHcw_reserved`. -/
theorem hostWordSelectsOperation : Obligations.HostWordSelectsOperation := by
  intro w n hn
  refine ⟨?_, ?_, ?_, ?_, ?_, ?_, ?_, ?_, fun h => decodeHcw_reserved ?_⟩
  case refine_9 => exact (hn ▸ h).imp_left BitVec.eq_of_toNat_eq
  all_goals
    intro h
    simp only [decodeHcw, hn.symm.trans h]

/-! ### Encoding, then decoding -/

/-- A host operation is what its word decodes to; a reserved code is its own word (rules R104, R114, R117). -/
theorem decodeHcw_of_encode {c : Cfg} {i : Instr} {w : HostWord} (hi : WellFormed i = true) (h : encode c i = .hcw w) :
    decodeHcw w = i := by
  cases i with
  | openOp b t => cases h; simp [decodeHcw, hcwOf_operand, hcwOf_low]
  | configure b z =>
    cases h
    have low : (0#30 ++ z : BitVec 32).extractLsb' 0 2 = z := BitVec.extractLsb'_append_eq_right
    simp [decodeHcw, hcwOf_operand, hcwOf_low, low]
  | autofocus m v =>
    cases h
    have mode : (0#1 ++ m : BitVec 3).extractLsb' 0 2 = m := BitVec.extractLsb'_append_eq_right
    have low : (0#16 ++ v : BitVec 32).extractLsb' 0 16 = v := BitVec.extractLsb'_append_eq_right
    simp [decodeHcw, hcwOf_operand, hcwOf_low, mode, low]
  | capture r k f e => cases h; simp [decodeHcw, hcwOf_low, operandBytes_fields]
  | closeOp | getversion | upload | reset => cases h; simp [decodeHcw]
  | hcwReserved code =>
    cases h
    rw [decodeHcw_reserved (by simpa [WellFormed] using hi), hcwOf_code]
  | _ => cases h

end Sys2Proof
end

section
/-! PROOFS. The bits of a host command word that its operation ignores. -/

namespace Sys2Proof.Machine

/-- A mask that is all ones over a field keeps the field. -/
theorem extractLsb'_and_of_allOnes {w m : HostWord} {k n : Nat} (hm : m.extractLsb' k n = BitVec.allOnes n) :
    (w &&& m).extractLsb' k n = w.extractLsb' k n := by
  rw [BitVec.extractLsb'_and, hm, BitVec.and_allOnes]

/-- The mask of each code covers every field the decoder reads under that code (rule R104). -/
theorem decodeHcw_usedBits (w : HostWord) : decodeHcw (usedBits w) = decodeHcw w := by
  unfold usedBits
  split
  case h_1 h | h_2 h | h_3 h | h_4 h =>
    simp (disch := decide) only [decodeHcw, h, extractLsb'_and_of_allOnes]
  case h_5 h1 h3 h5 h6 =>
    simp (disch := decide) only [decodeHcw, extractLsb'_and_of_allOnes]
    split
    case h_1 h => exact absurd h h1
    case h_3 h => exact absurd h h3
    case h_5 h => exact absurd h h5
    case h_6 h => exact absurd h h6
    all_goals rfl

/-- Settles O3: the decoder reads a word through its used bits alone, and the effect is that of what it reads. -/
theorem hostWordIgnoresUnusedBits : Obligations.HostWordIgnoresUnusedBits := by
  intro w u s h
  have hd : decodeHcw w = decodeHcw u := by rw [← decodeHcw_usedBits w, h, decodeHcw_usedBits u]
  exact ⟨hd, congrArg (exec · s) hd⟩

end Sys2Proof.Machine
end

section
/-! PROOFS. The codec as a whole: what the encoder writes is decoded to the instruction, and what is decoded is what the
encoder writes. -/

namespace Sys2Proof

/-! ### The code tables are read back (rules R9, R261) -/

theorem baudOfCode_baud {c : Cfg} (hc : c.wf) (b : BitVec 3) : c.baudOfCode (c.baud b) = some b := by
  have hi : c.baudCode.toList.idxOf (c.baud b) = b.toNat :=
    hc.1.idxOf_getElem b.toNat (by simpa using b.isLt)
  rw [Cfg.baudOfCode, hi, if_pos b.isLt, BitVec.ofNat_toNat, BitVec.setWidth_eq]

theorem pktOfCode_pkt {c : Cfg} (hc : c.wf) (z : BitVec 2) : c.pktOfCode (c.pkt z) = some z := by
  have hi : c.pktCode.toList.idxOf (c.pkt z) = z.toNat :=
    hc.2.idxOf_getElem z.toNat (by simpa using z.isLt)
  rw [Cfg.pktOfCode, hi, if_pos z.isLt, BitVec.ofNat_toNat, BitVec.setWidth_eq]

/-! ### Frames and windows -/

/-- A wire command is what its frame decodes to, the tables being injective (rules R101, R106 to R110, R261). -/
theorem decodeCommand_of_encode {c : Cfg} (hc : c.wf) {i : Instr} {k : WireCmd} {f : List Byte}
    (hi : WellFormed i = true) (h : encode c i = .command k f) : decodeCommand c k f = .ok i := by
  cases i with
  | wConfig b z =>
    cases h
    simp [decodeCommand, frameOf_toList, Cfg.opcode, paramsConfig, baudOfCode_baud hc, pktOfCode_pkt hc,
      acceptSlots_eq_ok, hi]
  | wGetversion | wAutofocus | wCapture | wUpload =>
    cases h
    simp [decodeCommand, frameOf_toList, Cfg.opcode, paramsNone, paramsFocus, paramsCapture, paramsUpload,
      acceptSlots_eq_ok, hi]
  | _ => cases h

/-- A received frame is what its window decodes to (rules R102, R103, R281). -/
theorem decodeReply_of_encode {c : Cfg} {i : Instr} {f : List Byte} (hi : WellFormed i = true)
    (h : encode c i = .reply f) : decodeReply f = .ok i := by
  cases i with
  | rsp13 st body ck =>
    cases h
    rw [rsp13Bytes_eq_rspupBytes]
    simp [decodeReply, rspupBytes, frameHeader, params_toList, params_eq, WellFormed]
  | rspup st env d ck =>
    cases h
    have hd : d ≠ [] := by
      rintro rfl
      simp [WellFormed] at hi
    simp [decodeReply, rspupBytes, frameHeader, params_toList, params_eq, hd, hi]
  | secFrame o len q => cases h; simp [decodeReply, secFrameBytes]
  | _ => cases h

/-- Settles O1: the three ports one by one. -/
theorem decodeOfEncodeIsIdentity : Obligations.DecodeOfEncodeIsIdentity := by
  intro c hc i hi
  cases h : encode c i with
  | hcw w => exact congrArg Except.ok (decodeHcw_of_encode hi h)
  | command k f => exact decodeCommand_of_encode hc hi h
  | reply f => exact decodeReply_of_encode hi h

/-- Settles O2: the command port, then the reply port. -/
theorem encodeOfDecodedFrameIsFrame : Obligations.EncodeOfDecodedFrameIsFrame := fun _ _ =>
  ⟨fun _ _ => encode_of_decodeCommand, fun _ => encode_of_decodeReply⟩

end Sys2Proof
end

section
/-! PROOFS. What the rows that commit no reply do when executed: a reserved code, the wire commands, and a secondary
frame as the window of a read. -/

namespace Sys2Proof.Machine

/-- Settles O20: the word is `decodeHcw_reserved`, and an idle block rejects the code. -/
theorem reservedCodeRejected : Obligations.ReservedCodeRejected := by
  intro w s hm h
  refine ⟨decodeHcw_reserved h, ?_⟩
  have hb : busy s = false := by simp [busy, hm]
  simp [exec, execReserved, hb, reject]

/-! ### Transmission -/

/-- CMD_TX of a latched command, field by field (rules R172, R254). -/
theorem cmdTx_latch (k : WireCmd) (q : Params) (s : State) :
    cmdTx (latch k q s) =
      { s with
        opc := s.cfg.opcode k, p := q
        txf := frameOf (s.cfg.opcode k) q
        ck := (frameOf (s.cfg.opcode k) q)[11]
        txLog := s.txLog ++ (frameOf (s.cfg.opcode k) q).toList.map (fun x => (s.baudSel, x))
        rxNeed := 13, mstep := .rx } := by
  simp only [cmdTx, awaitReply, writeTxf, tWrite, encodeCmd, latch]

/-- UP_TX, field by field (rules R224, R254). -/
theorem upTx_eq (i n : BitVec 16) (s : State) :
    upTx i n s =
      { s with
        opc := s.cfg.opcUpload, p := paramsUpload i n
        txf := frameOf s.cfg.opcUpload (paramsUpload i n)
        ck := (frameOf s.cfg.opcUpload (paramsUpload i n))[11]
        txLog := s.txLog ++ (frameOf s.cfg.opcUpload (paramsUpload i n)).toList.map (fun x => (s.baudSel, x))
        rxNeed := BitVec.ofNat 12 (13 + expectedLength s i), mstep := .rx } := by
  simp only [upTx, awaitReply, writeTxf, tWrite, encodeCmd, latch, Cfg.opcode]

/-- Settles O22: each row is `sendCommand` with its own slots, and enabled that is CMD_TX of the latched command. -/
theorem commandFrameTransmitted : Obligations.CommandFrameTransmitted := by
  intro s ht hu i k q hw hi
  rw [← cmdTx_latch]
  have sent : Host.Outcome.next (sendCommand k q s) = (.next (cmdTx (latch k q s)) : Result) :=
    congrArg _ (if_pos ⟨ht, hu, hw⟩)
  obtain ⟨b, z, rfl, rfl, rfl⟩ | ⟨rfl, rfl, rfl⟩ | ⟨x, v, rfl, rfl, rfl⟩ | ⟨r, c, f, e, rfl, rfl, rfl⟩ := hi <;>
    exact sent

/-- Settles O23: an enabled request is UP_TX, and a payload of at most 2048 bytes fits the read size. -/
theorem uploadRequestTransmitted : Obligations.UploadRequestTransmitted := by
  intro s k n ht hu
  refine ⟨(exec_wUpload_of_enabled ht hu).trans (congrArg _ (upTx_eq k n s)), ?_⟩
  have := expectedLength_le s k
  omega

/-! ### The secondary frame -/

/-- A secondary frame fails the header check whatever its length (rule R120). -/
theorem envelopeOk_secFrameBytes (o len : Byte) (q : List Byte) (n : Nat) :
    envelopeOk (secFrameBytes o len q) n = false := by
  simp [envelopeOk, secFrameBytes, frameHeader]

theorem secFrameBytes_length (o len : Byte) (q : List Byte) : (secFrameBytes o len q).length = 4 + q.length := by
  simp only [secFrameBytes, List.length_append, List.length_cons, List.length_nil]

/-- A window that fails the header or the tail check is skipped before any sum is computed (rules R145, R231, R301). -/
theorem upRx_of_bad_envelope {v : List Byte} {s : State} (he : envelopeOk v s.rxNeed.toNat = false) :
    upRx v s = advance (skip .malformed { s with rb := envelope v }) := by
  have hck : received v s.rxNeed.toNat s = { s with rb := envelope v } := by simp [received, replyCk, he]
  have hbad : replyCheck (rxck s) v s.rxNeed.toNat = .error .malformed := by simp [replyCheck, he]
  rcases upRx_cases v s with ⟨k, hk, hc⟩ | ⟨r, hk, -⟩ <;> rw [hbad] at hk <;> cases hk
  rw [hc, hck]

/-- Settles O30: the window of a command, the window of a packet, and no window. -/
theorem secondaryFrameIsMalformed : Obligations.SecondaryFrameIsMalformed := by
  intro s o len q
  have hl := secFrameBytes_length o len q
  have he := envelopeOk_secFrameBytes o len q
  have judgedAsWindow (hr : s.mstep = .rx) (hn : 4 + q.length = readLen s) :
      exec (.secFrame o len q) s = rxWindow (secFrameBytes o len q) s :=
    exec_of_window (c := s.cfg) rfl hr (hl.trans hn)
  refine ⟨fun hr hu hq => ?_, fun hr hu hq => ?_, fun h => if_neg (hl ▸ h)⟩
  · rw [judgedAsWindow hr (by rw [readLen_of_command hu, hq]), rxWindow, if_neg hu, cmdRx_of_bad_envelope (he 13)]
    rfl
  · rw [judgedAsWindow hr (by rw [readLen_of_upload hu, hq]), rxWindow, if_pos hu, upRx_of_bad_envelope (he _)]
    rcases advance_cases (skip .malformed { s with rb := envelope (secFrameBytes o len q) }) with
      ⟨hi, ha⟩ | ⟨hi, ha⟩ <;> rw [ha]
    · have hi : s.idx = s.packetCount := hi
      simp only [hi, if_true]
      rfl
    · have hi : s.idx ≠ s.packetCount := hi
      simp only [hi, if_false]
      rw [← hu]
      rfl

end Sys2Proof.Machine
end

section
/-! PROOFS. The checksum is the sum of the bytes of a range in the group of bytes: from that come its laws under a
change of the frame, and the frame ENCODE builds. -/

namespace Sys2Proof

theorem sumBytes_eq_sum (l : List Byte) : sumBytes l = l.sum := by
  induction l with
  | nil => rfl
  | cons b bs ih => rw [sumBytes, ih, List.sum_cons]

/-- The order of the additions does not matter (rule R142). -/
theorem sumBytes_perm {l m : List Byte} (h : l.Perm m) : sumBytes l = sumBytes m := by
  rw [sumBytes_eq_sum, sumBytes_eq_sum, h.sum_eq]

theorem sumBytes_set {l : List Byte} {i : Nat} (h : i < l.length) (x : Byte) :
    sumBytes (l.set i x) = sumBytes l + (x - l[i]) := by
  rw [sumBytes_eq_sum, sumBytes_eq_sum, List.sum_set', dif_pos h, neg_add_eq_sub]

/-- A byte inside the range changes the checksum by as much as it changes itself (rule R142). -/
theorem cksum_set_inside {f : List Byte} {a b i : Nat} (h : i < f.length) (ha : a ≤ i) (hb : i ≤ b) (x : Byte) :
    cksum (f.set i x) a b = cksum f a b + (x - f[i]) := by
  have hi : i - a < ((f.drop a).take (b + 1 - a)).length := by simp; omega
  have hget : ((f.drop a).take (b + 1 - a))[i - a] = f[i] := by simp [Nat.add_sub_cancel' ha]
  rw [cksum, List.drop_set, if_neg (not_lt.mpr ha), List.take_set, sumBytes_set hi, hget, cksum]

/-- A byte outside the range is not summed (rule R141). -/
theorem cksum_set_outside {f : List Byte} {a b i : Nat} (h : i < a ∨ b < i) (x : Byte) :
    cksum (f.set i x) a b = cksum f a b := by
  rcases Nat.lt_or_ge i a with ha | ha
  · rw [cksum, List.drop_set_of_lt ha, cksum]
  · rw [cksum, List.drop_set, if_neg (not_lt.mpr ha), List.take_set_of_le (by omega), cksum]

/-- Settles O8: the order by `sumBytes_perm`, a changed byte by `cksum_set_inside` or `cksum_set_outside`. -/
theorem checksumArithmetic : Obligations.ChecksumArithmetic := by
  refine ⟨fun f g a b h => sumBytes_perm h, fun f a b i d h ha hb => ?_,
    fun f a b i j d hi hj hne hai hib haj hjb => ?_, fun f i x h => cksum_set_outside (by omega) x⟩
  · rw [cksum_set_inside h ha hb, add_sub_cancel_left]
  · have hj' : j < (f.set i (f[i] + d)).length := by rwa [List.length_set]
    have hkept : (f.set i (f[i] + d))[j] = f[j] := List.getElem_set_of_ne hne _ hj'
    calc cksum ((f.set i (f[i] + d)).set j (f[j] - d)) a b
        = cksum f a b + (f[i] + d - f[i]) + (f[j] - d - f[j]) := by
          rw [cksum_set_inside hj' haj hjb, cksum_set_inside hi hai hib, hkept]
      _ = cksum f a b := by ring

/-! ### The frame ENCODE builds -/

/-- The checksum byte is the sum of positions 1 to 10 of the frame it stands in (rules R141, R143). -/
theorem cksum_frameOf (o : Byte) (p : Params) : cksum (frameOf o p).toList 1 10 = (frameOf o p)[11] := rfl

/-- The checksum byte as the sum of the ten bytes in the order of their positions (rule R143). -/
theorem frameOf_checksum_in_order (o : Byte) (p : Params) :
    (frameOf o p)[11] = 0x00 + 0x08 + 0x00 + o + p[0] + p[1] + p[2] + p[3] + p[4] + p[5] := by
  rw [frameOf_checksum]
  ring

end Sys2Proof

namespace Sys2Proof.Machine

/-- Settles O6: `TXF` is the frame and `CK` its checksum byte, which is the sum of the ten bytes. -/
theorem encodeBuildsCommandFrame : Obligations.EncodeBuildsCommandFrame := by
  intro s
  rw [← frameOf_checksum_in_order]
  rfl

/-- Settles O7: the frame position by position, and a frame determines its fields. -/
theorem encodeResultProperties : Obligations.EncodeResultProperties := by
  intro s t
  simp only [encodeCmd_txf]
  refine ⟨rfl, rfl, rfl, (cksum_frameOf s.opc s.p).symm, ?_, fun h => frameOf_toList_injective (congrArg _ h)⟩
  rw [frameOf_toList, params_toList]
  rfl

end Sys2Proof.Machine
end

section
/-! PROOFS. DECODE: its checks in order, what it makes of ENCODE's frame, and the numbers of a capture reply. -/

namespace Sys2Proof.Machine

theorem envelopeOk_iff {v : List Byte} {n : Nat} :
    envelopeOk v n = true ↔ v.length = n ∧ v.take 4 = frameHeader ∧ v.getD (n - 1) 0 = frameTail := by
  simp only [envelopeOk, Bool.and_eq_true, beq_iff_eq, and_assoc]

/-- A window that fails the length, the header or the tail check leaves `CK` alone (rule R145). -/
theorem decodeFrame_of_bad_envelope {v : List Byte} {n : Nat} (he : envelopeOk v n = false) (s : State) :
    decodeFrame v n s = (.error .malformed, s) := by
  simp only [decodeFrame, replyCheck, replyCk, he, Bool.not_false, if_true, Bool.false_and, Bool.false_eq_true,
    if_false]

/-- With `rxck` 0 no sum is computed (rule R145). -/
theorem decodeFrame_of_unchecked {v : List Byte} {n : Nat} {s : State} (he : envelopeOk v n = true)
    (hc : rxck s = false) :
    decodeFrame v n s = (.ok { status := v.getD 4 0, body := (v.drop 5).take (n - 7) }, s) := by
  simp [decodeFrame, replyCheck, replyCk, he, hc]

/-- With `rxck` 1 the sum of a window that passed the first three checks is written to `CK` and compared (rule R145). -/
theorem decodeFrame_of_checked {v : List Byte} {n : Nat} {s : State} (he : envelopeOk v n = true)
    (hc : rxck s = true) :
    decodeFrame v n s =
      (if v.getD (n - 2) 0 ≠ replySum v n then .error .checksum
        else .ok { status := v.getD 4 0, body := (v.drop 5).take (n - 7) }, { s with ck := replySum v n }) := by
  simp [decodeFrame, replyCheck, replyCk, he, hc]

/-- Settles O10: each of the first three checks alone fails `envelopeOk`; the fourth is made where `rxck` is 1. -/
theorem decodeChecksInOrder : Obligations.DecodeChecksInOrder := by
  intro v n s _
  have bad (h : ¬ (v.length = n ∧ v.take 4 = frameHeader ∧ v.getD (n - 1) 0 = frameTail)) :
      decodeFrame v n s = (.error .malformed, s) :=
    decodeFrame_of_bad_envelope (Bool.eq_false_iff.mpr (h ∘ envelopeOk_iff.mp)) s
  split
  next hl => exact bad fun ⟨hlen, _, _⟩ => hl hlen
  next hl =>
  split
  next hh => exact bad fun ⟨_, hhead, _⟩ => hh hhead
  next hh =>
  split
  next ht => exact bad fun ⟨_, _, htail⟩ => ht htail
  next ht =>
  have he : envelopeOk v n = true := envelopeOk_iff.mpr ⟨not_not.mp hl, not_not.mp hh, not_not.mp ht⟩
  split
  next hc =>
    rw [decodeFrame_of_checked he (beq_iff_eq.mpr hc), replySum]
    split <;> rfl
  next hc => exact decodeFrame_of_unchecked he (beq_eq_false_iff_ne.mpr hc)

/-! ### ENCODE's frame as a window -/

theorem envelopeOk_frameOf (o : Byte) (q : Params) : envelopeOk (frameOf o q).toList 13 = true :=
  envelopeOk_iff.mpr ⟨rfl, rfl, rfl⟩

/-- ENCODE's frame passes DECODE, checksum compared or not: its checksum byte is the sum DECODE computes (rule R150). -/
theorem replyCheck_frameOf (check : Bool) (o : Byte) (q : Params) :
    replyCheck check (frameOf o q).toList 13 = .ok { status := o, body := q.toList } := by
  rcases replyCheck_cases check (frameOf o q).toList 13 with ⟨he, -⟩ | ⟨-, -, hs, -⟩ | ⟨-, -, hc⟩
  · rw [envelopeOk_frameOf] at he
    cases he
  · exact absurd (cksum_frameOf o q).symm hs
  · rw [hc, params_toList]
    rfl

/-- Settles O9: `replyCheck_frameOf` at the state's `rxck`. -/
theorem decodeOfEncodeRoundTrips : Obligations.DecodeOfEncodeRoundTrips := by
  intro s o q
  rw [decodeFrame_fst, replyCheck_frameOf]

/-! ### The capture reply -/

/-- DECODE_CAPTURE reads the first five body bytes as a 24-bit and a 16-bit number (rules R111, R152). -/
theorem decodeCapture_rsp13Bytes (st b0 b1 b2 b3 b4 b5 ck : Byte) :
    decodeCapture (rsp13Bytes st #v[b0, b1, b2, b3, b4, b5] ck) =
      if st ≠ 0 then .error .device else .ok (be3 b0 b1 b2, be2 b3 b4) := rfl

/-- Settles O11: the fields by `decodeCapture_rsp13Bytes`, their values by `be3_toNat` and `be2_toNat`. -/
theorem captureReplyIsParsedBigEndian : Obligations.CaptureReplyIsParsedBigEndian := by
  intro st b0 b1 b2 b3 b4 b5 ck
  rw [decodeCapture_rsp13Bytes]
  exact ⟨fun h => if_pos h, fun h => ⟨_, _, if_neg (not_not.mpr h), be3_toNat b0 b1 b2, be2_toNat b3 b4⟩⟩

end Sys2Proof.Machine
end

section
/-! PROOFS. The failures of a command: the three ways a CTRL step can fail outside UPLOADING, each of them the abort. -/

namespace Sys2Proof.Machine

/-- The abort, field by field (rule R310). -/
theorem abort_eq (k : ErrKind) (s : State) :
    abort k s =
      { s with
        err := k, linkOpen := false, rxFifo := [], capValid := false, sstate := .disconnected, mstep := .idle } := by
  simp only [abort, disconnect, tClose, reject]

/-- What a command's failure leaves: the abort with a reply judged, after a timeout, or in the SWITCH step
(rules R173, R174, R185). -/
inductive CommandFailure (s : State) : State → Prop
  | timedOut : s.mstep = .rx → s.rxFifo.length < 13 → CommandFailure s (abort .timeout (tReadTimeout s))
  | badReply (k : ErrKind) : k ≠ .ok → s.mstep = .rx → 13 ≤ s.rxFifo.length →
      CommandFailure s (abort k (judged s))
  | switchRefused : s.mstep = .switch → CommandFailure s (abort .order s)

/-- A CTRL step of a command that leaves a kind where none was recorded has failed (rule R309). -/
theorem MoveEffect.commandFailure {s t : State} (e : MoveEffect s .ctrl t) (hu : s.sstate ≠ .uploading)
    (he : s.err = .ok) (hf : t.err ≠ .ok) : CommandFailure s t := by
  cases e with
  | commandTimedOut hr _ hl => exact .timedOut hr (readLen_of_command hu ▸ hl)
  | replyFailed k hr _ hl hk => exact .badReply k hk hr (readLen_of_command hu ▸ hl)
  | switchRefused hw => exact .switchRefused hw
  | packetRequested _ hup | packetTimedOut _ hup | packetSkipped _ _ hup | packetAppended _ hup => exact absurd hup hu
  | _ => exact absurd (by simpa using he) hf -- every other effect keeps `err`

/-- Every failure is the abort, up to `RB`, `CK` and the kind (rules R310, R311). -/
theorem CommandFailure.aborts {s t : State} (h : CommandFailure s t) :
    t = { s with
          rb := t.rb, ck := t.ck, err := t.err, linkOpen := false, rxFifo := []
          capValid := false, sstate := .disconnected, mstep := .idle } := by
  cases h <;> rw [abort_eq] <;> rfl

theorem judged_rb_toList {s : State} (hu : s.sstate ≠ .uploading) (hl : 13 ≤ s.rxFifo.length) :
    (judged s).rb.toList = s.rxFifo.take 13 := by
  have hw : window s = s.rxFifo.take 13 := by rw [window, readLen_of_command hu]
  rw [← hw]
  exact envelope_toList (hw ▸ List.length_take_of_le hl)

/-- `CK` after a reply is what DECODE leaves (rules R33, R145). -/
theorem judged_ck (s : State) : (judged s).ck = replyCk (rxck s) (window s) (readLen s) s.ck := rfl

/-- With `rxck` 0 judging a reply computes no sum (rule R145). -/
theorem judged_ck_of_unchecked {s : State} (hc : s.ctrl = 0) : (judged s).ck = s.ck := by
  have hx : rxck s = false := by simp [rxck, hc]
  simp only [judged_ck, replyCk, hx, Bool.and_false, Bool.false_eq_true, if_false]

/-- What a failure leaves in `RB` and `CK`, by its cause (rules R31, R145, R311). -/
theorem CommandFailure.registers {s t : State} (h : CommandFailure s t) (hu : s.sstate ≠ .uploading) :
    (s.mstep = .rx → 13 ≤ s.rxFifo.length → t.rb.toList = s.rxFifo.take 13) ∧
    (s.mstep = .rx → s.rxFifo.length < 13 → t.err = .timeout ∧ t.rb = s.rb ∧ t.ck = s.ck) ∧
    (s.mstep = .switch → t.err = .order ∧ t.rb = s.rb ∧ t.ck = s.ck) ∧
    (s.ctrl = 0 → t.ck = s.ck) := by
  cases h with
  | timedOut hr hl => simp [hr, hl]
  | badReply k _ hr hl =>
    simp only [abort_rb, abort_ck]
    exact ⟨fun _ _ => judged_rb_toList hu hl, fun _ hlt => absurd hlt (not_lt.mpr hl), by simp [hr],
      judged_ck_of_unchecked⟩
  | switchRefused hw => simp [hw]

/-- Settles O54: the step is a failure of the move made with the shorter schedule, by `MoveEffect.commandFailure`. -/
theorem commandFailureClosesLink : Obligations.CommandFailureClosesLink := by
  intro s t h hm hu hn hs hf
  have e := step_effect hs
  rw [hn] at e
  have failed := e.commandFailure hu (h.atCommand hm hu).unfailed hf
  exact ⟨failed.aborts, failed.registers hu⟩

end Sys2Proof.Machine
end

section
/-! PROOFS. What an issue does in each of its cases, and the host operations of the session: each is legality, operand
range, and its own effect on the accepted state. -/

namespace Sys2Proof.Machine

/-! ### The four cases of an issue (rule R170) -/

theorem issue_of_busy {o : Op} {r : Bool} {e : State → State} {s : State} (hb : s.mstep ≠ .idle) :
    issue o r e s = s :=
  if_pos (bne_iff_ne.mpr hb)

theorem issue_of_illegal {o : Op} {r : Bool} {e : State → State} {s : State} (hm : s.mstep = .idle)
    (hl : legal o s.sstate s.capValid = false) : issue o r e s = { s with err := .state } := by
  simp only [issue, busy, hm, hl, reject, bne_self_eq_false, Bool.false_eq_true, if_false, Bool.not_false, if_true]

theorem issue_of_outOfRange {o : Op} {e : State → State} {s : State} (hm : s.mstep = .idle)
    (hl : legal o s.sstate s.capValid = true) : issue o false e s = { s with err := .param } := by
  simp only [issue, busy, hm, hl, reject, bne_self_eq_false, Bool.false_eq_true, if_false, Bool.not_false, if_true,
    Bool.not_true]

theorem issue_of_accepted {o : Op} {e : State → State} {s : State} (hm : s.mstep = .idle)
    (hl : legal o s.sstate s.capValid = true) : issue o true e s = e { s with err := .ok, op := o } := by
  simp only [issue, busy, hm, hl, bne_self_eq_false, Bool.false_eq_true, if_false, Bool.not_true]

/-- The issue of an operation without an operand range that one session state alone accepts (rules R170, R171). -/
theorem next_issue_of_state {o : Op} {x : SState} {e : State → State} {s : State} (hm : s.mstep = .idle)
    (hl : legal o s.sstate s.capValid = (s.sstate == x)) :
    (s.sstate = x → (.next (issue o true e s) : Result) = .next (e { s with err := .ok, op := o })) ∧
    (s.sstate ≠ x → (.next (issue o true e s) : Result) = .next { s with err := .state }) :=
  ⟨fun hx => congrArg _ (issue_of_accepted hm (hl.trans (beq_iff_eq.mpr hx))),
    fun hx => congrArg _ (issue_of_illegal hm (hl.trans (beq_eq_false_iff_ne.mpr hx)))⟩

/-! ### While busy -/

/-- No host operation acts while another is in progress (rule R170, case 1). -/
theorem exec_host_of_busy {i : Instr} {s : State} (hi : isHostOperation i = true) (hb : s.mstep ≠ .idle) :
    exec i s = .next s := by
  cases i with
  | openOp | closeOp | configure | getversion | autofocus | capture | upload | reset =>
    exact congrArg _ (issue_of_busy hb)
  | hcwReserved code => exact congrArg _ (if_pos (bne_iff_ne.mpr hb))
  | _ => cases hi

/-- Settles O21: the decoder makes a host operation of every word, and none of them acts while busy. -/
theorem commandWordIgnoredWhileBusy : Obligations.CommandWordIgnoredWhileBusy := fun w _ hb =>
  exec_host_of_busy (decodeHcw_isHostOperation w) hb

/-! ### OPEN and CLOSE -/

/-- Settles O12: OPEN is legal in DISCONNECTED alone. -/
theorem openAccepted : Obligations.OpenAccepted := fun _ _ _ hm => next_issue_of_state hm rfl

/-- Settles O13: CLOSE is legal in every session state. -/
theorem closeAccepted : Obligations.CloseAccepted := fun _ hm => congrArg _ (issue_of_accepted hm rfl)

/-! ### The commands -/

/-- Settles O14: CONFIGURE is legal in CONFIGURING alone, and latches the codes of its two operands. -/
theorem configureAccepted : Obligations.ConfigureAccepted := fun _ _ _ hm => next_issue_of_state hm rfl

/-- Settles O15: GETVERSION is legal in READY alone. -/
theorem getversionAccepted : Obligations.GetversionAccepted := fun _ hm => next_issue_of_state hm rfl

/-- Settles O19: RESET is legal in READY alone, and latches what CONFIGURE with index 4 and `DEF_PKT` would. -/
theorem resetAccepted : Obligations.ResetAccepted := fun _ hm => next_issue_of_state hm rfl

/-- AUTOFOCUS takes the modes 0 to 2, and in manual mode the values up to 750 (rule R194). -/
theorem focusInRange_iff {m : BitVec 2} {v : BitVec 16} :
    focusInRange m v = true ↔ m ≠ 3 ∧ (m = 2 → v.toNat ≤ 750) := by
  simp [focusInRange, or_iff_not_imp_left]

theorem focusInRange_eq_false {m : BitVec 2} {v : BitVec 16} (h : m = 3 ∨ (m = 2 ∧ 750 < v.toNat)) :
    focusInRange m v = false := by
  refine Bool.eq_false_iff.mpr fun hr => ?_
  obtain ⟨hne, hle⟩ := focusInRange_iff.mp hr
  rcases h with h3 | ⟨h2, hv⟩
  · exact hne h3
  · exact absurd (hle h2) (not_le.mpr hv)

/-- The parameters of AUTOFOCUS: the focus code of the mode, and in manual mode alone the value's two bytes (rule R108). -/
theorem paramsFocus_eq {c : Cfg} {m : BitVec 2} (v : BitVec 16) (h : m.toNat < 3) :
    paramsFocus (c.focus m) (focusValue m v) =
      #v[c.focusCode[m.toNat], if m = 2 then v.extractLsb' 8 8 else 0, if m = 2 then v.extractLsb' 0 8 else 0,
        0, 0, 0] := by
  have hc : c.focus m = c.focusCode[m.toNat] := by simp [Cfg.focus, List.getD, h]
  rw [paramsFocus, hc, focusValue]
  split <;> rfl

/-- Settles O16: legality comes before the range check, which comes before acceptance. -/
theorem autofocusAccepted : Obligations.AutofocusAccepted := by
  intro m v s hm
  have legal_of (hs : s.sstate = .ready) : legal .autofocus s.sstate s.capValid = true := beq_iff_eq.mpr hs
  refine ⟨fun hs => ?_, fun hs hbad => ?_, fun hs h3 hv => ?_⟩
  · exact congrArg _ (issue_of_illegal (o := .autofocus) hm (beq_eq_false_iff_ne.mpr hs))
  · rw [exec, execAutofocus, focusInRange_eq_false hbad, issue_of_outOfRange hm (legal_of hs)]
  · have hr : focusInRange m v = true := focusInRange_iff.mpr ⟨by rintro rfl; exact absurd h3 (by decide), hv⟩
    rw [exec, execAutofocus, hr, issue_of_accepted hm (legal_of hs), ← paramsFocus_eq v h3]
    rfl

/-- With an empty buffer no byte of the image is defined (rules R45, R81). -/
theorem imgByte_of_bufLen_zero {s : State} (h : s.bufLen = 0) (a : Nat) : imgByte s a = none := by
  simp [imgByte, h]

/-- Settles O17: CAPTURE is legal in READY alone, and empties the buffer. -/
theorem captureAccepted : Obligations.CaptureAccepted := by
  intro r c f e s hm
  obtain ⟨accepted, rejected⟩ := next_issue_of_state (o := .capture) (x := .ready) (s := s) hm rfl
  exact ⟨fun hs => ⟨_, accepted hs, imgByte_of_bufLen_zero rfl, rfl⟩, rejected⟩

end Sys2Proof.Machine
end

section
/-! PROOFS. The reply of a command as the row RSP13: the checks it meets, what they leave in `RB` and `CK`, and the
commit or the abort that follows; and frames outside their micro-step. -/

namespace Sys2Proof.Machine

/-! ### The 13-byte reply as a window -/

theorem rsp13Bytes_length (st : Byte) (q : Params) (x : Byte) : (rsp13Bytes st q x).length = 13 := by
  simp [rsp13Bytes, frameHeader]

theorem envelopeOk_rsp13Bytes (st b0 b1 b2 b3 b4 b5 x : Byte) :
    envelopeOk (rsp13Bytes st #v[b0, b1, b2, b3, b4, b5] x) 13 = true :=
  envelopeOk_iff.mpr ⟨rfl, rfl, rfl⟩

/-- The header adds 8 to the sum over the status and the body (rules R100, R148). -/
theorem replySum_rsp13Bytes (st b0 b1 b2 b3 b4 b5 x : Byte) :
    replySum (rsp13Bytes st #v[b0, b1, b2, b3, b4, b5] x) 13 = 8 + st + b0 + b1 + b2 + b3 + b4 + b5 := by
  simp [replySum, cksum, rsp13Bytes, frameHeader, sumBytes_eq_sum, add_assoc]

theorem envelope_rsp13Bytes (st b0 b1 b2 b3 b4 b5 x : Byte) :
    envelope (rsp13Bytes st #v[b0, b1, b2, b3, b4, b5] x) =
      #v[0x7E, 0x00, 0x08, 0x00, st, b0, b1, b2, b3, b4, b5, x, 0xE7] := rfl

/-- The state in which a 13-byte reply is judged (rules R31, R33, R145). -/
theorem received_rsp13Bytes (st b0 b1 b2 b3 b4 b5 x : Byte) (s : State) :
    received (rsp13Bytes st #v[b0, b1, b2, b3, b4, b5] x) 13 s =
      { s with
        rb := #v[0x7E, 0x00, 0x08, 0x00, st, b0, b1, b2, b3, b4, b5, x, 0xE7]
        ck := if s.ctrl = 1 then 8 + st + b0 + b1 + b2 + b3 + b4 + b5 else s.ck } := by
  simp only [received, envelope_rsp13Bytes, replyCk, envelopeOk_rsp13Bytes, replySum_rsp13Bytes, rxck, Bool.true_and,
    beq_iff_eq]

/-- A right checksum, or one that is not compared, passes DECODE (rule R145). -/
theorem replyCheck_rsp13Bytes {s : State} {st b0 b1 b2 b3 b4 b5 x : Byte}
    (hx : s.ctrl = 1 → x = 8 + st + b0 + b1 + b2 + b3 + b4 + b5) :
    replyCheck (rxck s) (rsp13Bytes st #v[b0, b1, b2, b3, b4, b5] x) 13 =
      .ok { status := st, body := [b0, b1, b2, b3, b4, b5] } := by
  rcases replyCheck_cases (rxck s) (rsp13Bytes st #v[b0, b1, b2, b3, b4, b5] x) 13 with
    ⟨he, -⟩ | ⟨-, hc, hs, -⟩ | ⟨-, -, h⟩
  · rw [envelopeOk_rsp13Bytes] at he
    cases he
  · rw [replySum_rsp13Bytes] at hs
    exact absurd (hx (beq_iff_eq.mp hc)) hs
  · exact h

/-- A wrong checksum that is compared does not pass DECODE (rule R145). -/
theorem replyCheck_rsp13Bytes_of_wrong_sum {s : State} {st b0 b1 b2 b3 b4 b5 x : Byte} (hc : s.ctrl = 1)
    (hx : x ≠ 8 + st + b0 + b1 + b2 + b3 + b4 + b5) :
    replyCheck (rxck s) (rsp13Bytes st #v[b0, b1, b2, b3, b4, b5] x) 13 = .error .checksum := by
  rcases replyCheck_cases (rxck s) (rsp13Bytes st #v[b0, b1, b2, b3, b4, b5] x) 13 with
    ⟨he, -⟩ | ⟨-, -, -, h⟩ | ⟨-, hs, -⟩
  · rw [envelopeOk_rsp13Bytes] at he
    cases he
  · exact h
  · rw [replySum_rsp13Bytes] at hs
    exact absurd (hs (beq_iff_eq.mpr hc)) hx

/-- Where a command awaits its reply, RSP13 is CMD_RX on its bytes (rule R173; log entry 4). -/
theorem exec_rsp13_of_command {s : State} (st : Byte) (q : Params) (x : Byte) (hr : s.mstep = .rx)
    (hu : s.sstate ≠ .uploading) : exec (.rsp13 st q x) s = cmdRx (rsp13Bytes st q x) s := by
  have hl : (rsp13Bytes st q x).length = readLen s := (rsp13Bytes_length st q x).trans (readLen_of_command hu).symm
  rw [exec_of_window (c := s.cfg) rfl hr hl, rxWindow, if_neg hu]

/-! ### What CMD_RX makes of the checks -/

/-- A window that DECODE refuses aborts with DECODE's kind (rules R173, R310). -/
theorem cmdRx_of_refused {v : List Byte} {s : State} {k : ErrKind} (hr : replyCheck (rxck s) v 13 = .error k) :
    cmdRx v s = .next (abort k (received v 13 s)) := by
  rcases cmdRx_cases v s with ⟨k', hk, hc⟩ | ⟨r, hk, -⟩ <;> rw [hr] at hk <;> cases hk
  exact hc

/-- A nonzero status aborts with DEVICE, for CAPTURE in DECODE_CAPTURE and for the others in STATUS_CHECK (rules R151,
R152, R173). -/
theorem cmdRx_of_device_error {v : List Byte} {s : State} {r : Reply} (hr : replyCheck (rxck s) v 13 = .ok r)
    (hv : v.getD 4 0 = r.status) (hst : r.status ≠ 0) : cmdRx v s = .next (abort .device (received v 13 s)) := by
  have hcap : decodeCapture v = .error .device := if_pos (hv ▸ hst)
  have hstat : statusCheck r.status = .error .device := if_neg hst
  rcases cmdRx_cases v s with
    ⟨k, hk, -⟩ | ⟨r', hk, ⟨-, ⟨k, hd, hc⟩ | ⟨n, c, hd, -⟩⟩ | ⟨-, ⟨k, hd, hc⟩ | ⟨hd, -⟩⟩⟩ <;>
    rw [hr] at hk <;> cases hk
  · rw [hcap] at hd
    cases hd
    exact hc
  · rw [hcap] at hd
    cases hd
  · rw [hstat] at hd
    cases hd
    exact hc
  · rw [hstat] at hd
    cases hd

/-- A reply to CAPTURE that passes DECODE and DECODE_CAPTURE is committed (rules R202, R203). -/
theorem cmdRx_of_captured {v : List Byte} {s : State} {r : Reply} {n : BitVec 24} {c : BitVec 16}
    (hr : replyCheck (rxck s) v 13 = .ok r) (hop : s.op = .capture) (hd : decodeCapture v = .ok (n, c)) :
    cmdRx v s = .next (commitCapture n c (received v 13 s)) := by
  rcases cmdRx_cases v s with ⟨k, hk, -⟩ | ⟨r', -, ⟨-, ⟨k, hk, -⟩ | ⟨n', c', hk, hc⟩⟩ | ⟨ho, -⟩⟩
  · rw [hr] at hk
    cases hk
  · rw [hd] at hk
    cases hk
  · rw [hd] at hk
    cases hk
    exact hc
  · exact absurd hop ho

/-! ### Good replies -/

/-- A good reply to a command other than CAPTURE is the operation's commit (rule R173). -/
theorem exec_rsp13_of_good {s : State} {b0 b1 b2 b3 b4 b5 x : Byte} (hr : s.mstep = .rx) (hu : s.sstate ≠ .uploading)
    (hx : s.ctrl = 1 → x = 8 + b0 + b1 + b2 + b3 + b4 + b5) (hop : s.op ≠ .capture) :
    exec (.rsp13 0 #v[b0, b1, b2, b3, b4, b5] x) s =
      commit (received (rsp13Bytes 0 #v[b0, b1, b2, b3, b4, b5] x) 13 s) := by
  rw [exec_rsp13_of_command _ _ _ hr hu]
  exact cmdRx_of_accepted (replyCheck_rsp13Bytes (by simpa using hx)) rfl hop

/-- A right checksum, where it is compared, is what DECODE leaves in `CK` (rules R33, R145). -/
theorem received_rsp13Bytes_of_good {s : State} {b0 b1 b2 b3 b4 b5 x : Byte}
    (hx : s.ctrl = 1 → x = 8 + b0 + b1 + b2 + b3 + b4 + b5) :
    received (rsp13Bytes 0 #v[b0, b1, b2, b3, b4, b5] x) 13 s =
      { s with
        rb := #v[0x7E, 0x00, 0x08, 0x00, 0x00, b0, b1, b2, b3, b4, b5, x, 0xE7]
        ck := if s.ctrl = 1 then x else s.ck } := by
  have hck : (if s.ctrl = 1 then 8 + 0 + b0 + b1 + b2 + b3 + b4 + b5 else s.ck) = if s.ctrl = 1 then x else s.ck :=
    if_ctx_congr Iff.rfl (fun hc => by rw [hx hc, add_zero]) fun _ => rfl
  rw [received_rsp13Bytes, hck]

/-- Settles O24: `commit_cases` at the operation in progress, and for CAPTURE the numbers of its body. -/
theorem goodReplyCommits : Obligations.GoodReplyCommits := by
  intro s b0 b1 b2 b3 b4 b5 x hr hu hx r hrec
  rw [← received_rsp13Bytes_of_good hx] at hrec
  have good (hop : s.op ≠ .capture) := (exec_rsp13_of_good hr hu hx hop).trans (congrArg commit hrec.symm)
  have ho : r.op = s.op := by rw [hrec]; rfl
  have hn : r.npkt = s.npkt := by rw [hrec]; rfl
  refine ⟨fun h => ?_, fun h => ?_, fun h => ?_, fun h => ?_⟩
  · rw [good (by rcases h with h | h <;> simp [h]), ← hn]
    rcases h with h | h <;> simp only [commit, ho, h]
  · rw [good (by simp [h])]
    simp only [commit, ho, h]
  · rw [good (by simp [h])]
    simp only [commit, ho, h]
  · rw [exec_rsp13_of_command _ _ _ hr hu,
      cmdRx_of_captured (replyCheck_rsp13Bytes (by simpa using hx)) h (decodeCapture_rsp13Bytes 0 b0 b1 b2 b3 b4 b5 x),
      ← hrec]
    rfl

/-- Settles O28: a good reply is committed, and these operations have no commit. -/
theorem replyWithNoCommandStops : Obligations.ReplyWithNoCommandStops := by
  intro s b0 b1 b2 b3 b4 b5 x hr hu hop hx
  rw [exec_rsp13_of_good hr hu hx (by rcases hop with h | h | h | h <;> simp [h])]
  have ho : (received (rsp13Bytes 0 #v[b0, b1, b2, b3, b4, b5] x) 13 s).op = s.op := rfl
  rcases hop with h | h | h | h <;> simp only [commit, ho, h]

/-! ### Bad replies -/

/-- Settles O25: the first check that fails names the kind of the abort, in the state the reply was judged in. -/
theorem badReplyAborts : Obligations.BadReplyAborts := by
  rintro s st b0 b1 b2 b3 b4 b5 x hr hu sum rfl
  refine ⟨fun hc hx => ?_, fun hx hst => ?_⟩ <;> rw [exec_rsp13_of_command _ _ _ hr hu]
  · rw [cmdRx_of_refused (replyCheck_rsp13Bytes_of_wrong_sum hc hx), received_rsp13Bytes, abort_eq, if_pos hc]
  · rw [cmdRx_of_device_error (replyCheck_rsp13Bytes hx) rfl hst, received_rsp13Bytes, abort_eq]

/-! ### Frames outside their micro-step -/

theorem receive_of_no_read {v : List Byte} {s : State} (h : ¬ (s.mstep = .rx ∧ readLen s = v.length)) :
    receive v s = .next s :=
  if_neg fun ⟨hr, hl⟩ => h ⟨hr, hl.symm⟩

theorem rspupBytes_length (st : Byte) (e : Params) (d : List Byte) (x : Byte) :
    (rspupBytes st e d x).length = 13 + d.length := by
  simp [rspupBytes, frameHeader]
  omega

/-- Settles O29: a wire row tests that its micro-step is enabled, a reply that a read of its length is outstanding. -/
theorem frameOutsideItsStepChangesNothing : Obligations.FrameOutsideItsStepChangesNothing := by
  intro s
  refine ⟨fun k hk => ?_, fun h _ _ => congrArg _ (if_neg h), fun h st b x => ?_, fun st e d x h => ?_⟩
  · have kept (q : Params) : Host.Outcome.next (sendCommand k q s) = (.next s : Result) := congrArg _ (if_neg hk)
    refine ⟨?_, ?_, ?_, ?_⟩ <;> rintro rfl
    · exact fun _ _ => kept _
    · exact kept _
    · exact fun _ _ => kept _
    · exact fun _ _ _ _ => kept _
  · exact receive_of_no_read ((rsp13Bytes_length st b x).symm ▸ h)
  · exact receive_of_no_read ((rspupBytes_length st e d x).symm ▸ h)

end Sys2Proof.Machine
end

section
/-! PROOFS. CTRL's steps that judge no reply: the transmission of a command, the timed-out read, and the switch of the
rate, each with its whole next state. -/

namespace Sys2Proof.Machine

/-- CMD_TX, field by field (rules R172, R254). -/
theorem cmdTx_eq (s : State) :
    cmdTx s =
      { s with
        txf := frameOf s.opc s.p
        ck := (frameOf s.opc s.p)[11]
        txLog := s.txLog ++ (frameOf s.opc s.p).toList.map (fun x => (s.baudSel, x))
        rxNeed := 13, mstep := .rx } := by
  simp only [cmdTx, awaitReply, writeTxf, tWrite, encodeCmd]

/-- Settles O32: `ctrlTx_eq_cmdTx`, whether or not the frame of the command registers decodes. -/
theorem commandTransmitStep : Obligations.CommandTransmitStep := by
  intro s ht hu
  rw [ctrlMove_of_tx ht, ctrlTx_eq_cmdTx ht hu, cmdTx_eq]

/-- NEXT, field by field: the upload ends after its last packet and asks for the next one before (rule R231). -/
theorem advance_eq (s : State) :
    advance s =
      { s with
        err := if s.idx = s.packetCount then completionErr s.bufLen s.totalBytes else s.err
        sstate := if s.idx = s.packetCount then .ready else s.sstate
        mstep := if s.idx = s.packetCount then .idle else .tx
        idx := if s.idx = s.packetCount then s.idx else s.idx + 1 } := by
  rcases advance_cases s with ⟨hi, h⟩ | ⟨hi, h⟩ <;> rw [h] <;> simp only [hi, if_true, if_false]

/-- A read that finds too few bytes queued times out (rules R174, R229, R257). -/
theorem ctrlMove_of_short_queue {s : State} (hr : s.mstep = .rx) (hl : s.rxFifo.length < readLen s) :
    ctrlMove s = .next (rxTimeout s) := by
  rw [ctrlMove_of_rx hr]
  rcases ctrlRx_cases hr with ⟨hle, -⟩ | ⟨-, h⟩
  · exact absurd hl (not_lt.mpr hle)
  · exact h

/-- Settles O35: the timed-out read is the abort of a command, and the skip of a packet followed by NEXT. -/
theorem timedOutRead : Obligations.TimedOutRead := by
  intro s hr
  refine ⟨fun hu hl => ?_, fun hu hl => ?_⟩
  · rw [ctrlMove_of_short_queue hr (readLen_of_command hu ▸ hl), rxTimeout, if_neg hu, abort_eq]
    rfl
  · rw [ctrlMove_of_short_queue hr (readLen_of_upload hu ▸ hl), rxTimeout, if_pos hu, advance_eq]
    simp only [skip, tReadTimeout, completionErr, hu]

/-- Settles O36: the two cases of `switchStep_cases`. -/
theorem switchStepDrainsFirst : Obligations.SwitchStepDrainsFirst := by
  intro s hw
  rw [ctrlMove_of_switch hw]
  rcases switchStep_cases s with ⟨hf, h⟩ | ⟨hf, h⟩ <;> rw [h]
  · exact ⟨fun he => absurd he hf, fun _ => congrArg _ (abort_eq .order s)⟩
  · exact ⟨fun _ => rfl, fun hne => absurd hf hne⟩

end Sys2Proof.Machine
end

section
/-! PROOFS. The session's transitions: every effect of a move keeps the session state or is a row of the table. -/

namespace Sys2Proof.Machine

/-- The table does not speak of the schedule. -/
theorem Transition.of_agenda {s t : State} {m : Move} {l : List Move}
    (h : Transition { s with agenda := l } t m) : Transition s t m := by
  cases h with
  | stays _ h => exact .stays m h
  | opened w b n hd hm hs ht => exact .opened w b n hd hm hs ht
  | configured hm ho hs ht => exact .configured hm ho hs ht
  | focusing w f v hd hm hs ht => exact .focusing w f v hd hm hs ht
  | focused hm ho hs ht => exact .focused hm ho hs ht
  | capturing w r c f e hd hm hs ht => exact .capturing w r c f e hd hm hs ht
  | captured hm ho hs ht => exact .captured hm ho hs ht
  | uploading w hd hm hs hn ht => exact .uploading w hd hm hs hn ht
  | uploaded hm hs hi ht => exact .uploaded hm hs hi ht
  | resetting w hd hm hs ht => exact .resetting w hd hm hs ht
  | wasReset hm ho hs ht => exact .wasReset hm ho hs ht
  | closed w hd hm hs ht => exact .closed w hd hm hs ht
  | aborted hm hu hd he ht => exact .aborted hm hu hd he ht
  | hardwareReset ht => exact .hardwareReset ht

/-- The SWITCH step belongs to CONFIGURE and RESET, not to an upload (R50 (c)). -/
theorem State.Inv.not_uploading_of_switch {s : State} (h : s.Inv) (hw : s.mstep = .switch) : s.sstate ≠ .uploading := by
  rcases h.switch_state hw with hs | hs <;> simp [hs]

theorem AtCommand.sstate_of_op {s : State} {o : Op} (h : AtCommand s) (ho : s.op = o) : s.sstate = opState o :=
  ho ▸ h.session

/-- The abort of a command in progress (rules R215, R310). -/
theorem Transition.of_abort {s u : State} {k : ErrKind} (h : s.Inv) (hm : s.mstep ≠ .idle) (hu : s.sstate ≠ .uploading)
    (hk : k ≠ .ok) : Transition s (abort k u) .ctrl :=
  .aborted hm hu (h.atCommand hm hu).not_disconnected (by simpa using hk) (by simp)

/-- NEXT ends the upload after the last packet, and leaves the session in UPLOADING before (rule R231). -/
theorem Transition.of_advance {s u : State} (hr : s.mstep = .rx) (hu : s.sstate = .uploading)
    (hs : u.sstate = s.sstate) (hi : u.idx = s.idx) (hn : u.packetCount = s.packetCount) :
    Transition s (advance u) .ctrl := by
  rcases advance_cases u with ⟨he, h⟩ | ⟨-, h⟩ <;> rw [h]
  · exact .uploaded hr hu (hi ▸ hn ▸ he) rfl
  · exact .stays _ hs

/-- Each effect with the row it makes; aborts and the end of an upload are `of_abort` and `of_advance` (rule R215). -/
theorem MoveEffect.transition {s t : State} {m : Move} (e : MoveEffect s m t) (h : s.Inv) : Transition s t m := by
  cases e with
  | hardwareReset => exact .hardwareReset rfl
  | opened w b n hd hm hs => exact .opened w b n hd hm hs rfl
  | closed w hd hm =>
    by_cases hs : s.sstate = .disconnected
    · exact .stays _ hs.symm
    · exact .closed w hd hm hs rfl
  | autofocusIssued w f v hd hm hs => exact .focusing w f v hd hm hs rfl
  | captureIssued w r c f e hd hm hs => exact .capturing w r c f e hd hm hs rfl
  | resetIssued w hd hm hs => exact .resetting w hd hm hs rfl
  | uploadStarted w hd hm hs _ hn =>
    exact .uploading w hd hm hs (Nat.pos_of_ne_zero fun h0 => hn (BitVec.eq_of_toNat_eq h0)) rfl
  | commandTimedOut hr hu => exact .of_abort h (by simp [hr]) hu (by decide)
  | replyFailed k hr hu _ hk => exact .of_abort h (by simp [hr]) hu hk
  | switchRefused hw => exact .of_abort h (by simp [hw]) (h.not_uploading_of_switch hw) (by decide)
  | captured n c hr hu _ ho => exact .captured hr ho ((h.atCommand (by simp [hr]) hu).sstate_of_op ho) (by simp)
  | focused hr hu _ ho => exact .focused hr ho ((h.atCommand (by simp [hr]) hu).sstate_of_op ho) rfl
  | switched hw _ =>
    have hc := h.atCommand (by simp [hw]) (h.not_uploading_of_switch hw)
    rcases hc.switching hw with ho | ho
    · exact .configured hw ho (hc.sstate_of_op ho) rfl
    · exact .wasReset hw ho (hc.sstate_of_op ho) rfl
  | packetTimedOut hr hu | packetSkipped k hr hu | packetAppended hr hu =>
    exact .of_advance hr hu (by simp) (by simp) (by simp)
  | _ => exact .stays _ (by simp [hostReadImg]) -- every other effect keeps the session state

/-- Settles O49: `MoveEffect.transition` for the effect of the step, in the state whose schedule is shorter by it. -/
theorem sessionTransitionsAreTheTable : Obligations.SessionTransitionsAreTheTable := fun s _ h hs =>
  .of_agenda ((step_effect hs).transition
    (inv_of_hostSide h s.ctrl s.agenda.tail s.hostReg s.hostMem s.draws))

end Sys2Proof.Machine
end

section
/-! PROOFS. UPLOAD's issue, and the packet lengths of a consistent capture. -/

namespace Sys2Proof.Machine

/-- UPLOAD is accepted in READY with a valid capture (rules R171, R220). -/
theorem exec_upload_of_legal {s : State} (hm : s.mstep = .idle) (hs : s.sstate = .ready) (hv : s.capValid = true) :
    exec .upload s = .next (uploadIssue { s with err := .ok, op := .upload }) :=
  congrArg _ (issue_of_accepted (o := .upload) hm (by simp [legal, hs, hv]))

theorem legal_upload_eq_false {x : SState} {v : Bool} (h : ¬ (x = .ready ∧ v = true)) : legal .upload x v = false := by
  simpa only [legal, Bool.and_eq_false_iff, beq_eq_false_iff_ne, ne_eq, Bool.not_eq_true, not_and_or] using h

/-- An empty upload is complete exactly when the capture announced no byte (rules R222, R233). -/
theorem completionErr_zero (n : BitVec 24) : completionErr 0 n = if n = 0 then .ok else .incomplete :=
  if_congr (eq_comm.trans (BitVec.toNat_inj (y := 0))) rfl rfl

/-- Settles O18: the two branches of an accepted UPLOAD's own effect, and the rejection. -/
theorem uploadAccepted : Obligations.UploadAccepted := by
  intro s hm
  refine ⟨fun hs hv hn => ?_, fun hs hv hn => ?_, fun h => ?_⟩
  · have hne : s.packetCount ≠ 0 := by
      rintro h0
      simp [h0] at hn
    exact ⟨_, (exec_upload_of_legal hm hs hv).trans (congrArg _ (if_neg hne)), imgByte_of_bufLen_zero rfl, rfl⟩
  · rw [← completionErr_zero]
    exact ⟨_, (exec_upload_of_legal hm hs hv).trans (congrArg _ (if_pos hn)), imgByte_of_bufLen_zero rfl, rfl⟩
  · exact congrArg _ (issue_of_illegal (o := .upload) hm (legal_upload_eq_false h))

/-! ### The lengths add up (rule R236) -/

theorem expectedLength_of_not_last {s : State} {i : BitVec 16} (h : i ≠ s.packetCount) :
    expectedLength s i = pktSize s.pktSel :=
  if_pos h

/-- The last packet holds what full packets before it leave of the total (rule R223). -/
theorem expectedLength_of_last {s : State} {m : Nat} (hlow : m * pktSize s.pktSel < s.totalBytes.toNat)
    (hhigh : s.totalBytes.toNat ≤ (m + 1) * pktSize s.pktSel) :
    m * pktSize s.pktSel + expectedLength s s.packetCount = s.totalBytes.toNat := by
  rw [expectedLength, if_neg (not_not.mpr rfl)]
  rcases pktSize_cases s.pktSel with h | h | h | h <;> rw [h] at hlow hhigh ⊢ <;> split <;> omega

/-- The least number of packets that hold a total leaves the last one neither empty nor overfull (rule R236). -/
theorem packets_bounds {n p m : Nat} (hp : 0 < p) (h : (n + p - 1) / p = m + 1) : m * p < n ∧ n ≤ (m + 1) * p := by
  obtain ⟨hlow, hhigh⟩ := (Nat.div_eq_iff hp).mp h
  rw [Nat.succ_mul] at *
  omega

/-- Settles O58: all packets but the last are full, and `expectedLength_of_last` gives the last. -/
theorem expectedLengthsAddUpToTotal : Obligations.ExpectedLengthsAddUpToTotal := by
  intro s hpos hcount
  have hp : 0 < pktSize s.pktSel := by rcases pktSize_cases s.pktSel with h | h | h | h <;> omega
  have hlt := s.packetCount.isLt
  obtain ⟨m, hm⟩ : ∃ m, s.packetCount.toNat = m + 1 :=
    Nat.exists_eq_add_one.mpr (hcount ▸ Nat.div_pos (by omega) hp)
  have full (j : Nat) (hj : j ∈ List.range m) : expectedLength s (BitVec.ofNat 16 (j + 1)) = pktSize s.pktSel := by
    refine expectedLength_of_not_last fun h => ?_
    have hn := congrArg BitVec.toNat h
    rw [BitVec.toNat_ofNat] at hn
    have := List.mem_range.mp hj
    omega
  have last : BitVec.ofNat 16 (m + 1) = s.packetCount := by rw [← hm, BitVec.ofNat_toNat, BitVec.setWidth_eq]
  obtain ⟨hlow, hhigh⟩ := packets_bounds hp (hcount.symm.trans hm)
  rw [hm, List.range_succ, List.map_append, List.sum_append, List.map_congr_left full, List.map_const',
    List.sum_replicate_nat, List.length_range, List.map_singleton, List.sum_singleton, last]
  exact expectedLength_of_last hlow hhigh

end Sys2Proof.Machine
end

section
/-! PROOFS. The reply of a packet: the upload reply as a window, what UP_RX makes of the checks, and what follows a reply
that is accepted, refused by a check, or no frame. -/

namespace Sys2Proof.Machine

/-! ### The upload reply as a window (rule R103) -/

theorem rspupBytes_eq (st : Byte) (e : Params) (d : List Byte) (x : Byte) :
    rspupBytes st e d x =
      0x7E :: 0x00 :: 0x08 :: 0x00 :: st :: e[0] :: e[1] :: e[2] :: e[3] :: e[4] :: e[5] :: (d ++ [x, frameTail]) := by
  simp [rspupBytes, frameHeader, params_toList]

theorem rspupBytes_checksum (st : Byte) (e : Params) (d : List Byte) (x : Byte) :
    (rspupBytes st e d x).getD (13 + d.length - 2) 0 = x := by
  rw [show 13 + d.length - 2 = d.length + 11 by omega, rspupBytes_eq]
  simp [List.getD]

theorem rspupBytes_tail (st : Byte) (e : Params) (d : List Byte) (x : Byte) :
    (rspupBytes st e d x).getD (13 + d.length - 1) 0 = frameTail := by
  rw [show 13 + d.length - 1 = d.length + 12 by omega, rspupBytes_eq]
  simp [List.getD]

theorem rspupBytes_payload (st : Byte) (e : Params) (d : List Byte) (x : Byte) :
    ((rspupBytes st e d x).drop 11).take d.length = d := by
  simp [rspupBytes_eq]

theorem envelopeOk_rspupBytes (st : Byte) (e : Params) (d : List Byte) (x : Byte) :
    envelopeOk (rspupBytes st e d x) (13 + d.length) = true :=
  envelopeOk_iff.mpr ⟨rspupBytes_length st e d x, rfl, rspupBytes_tail st e d x⟩

/-- The sum runs from the second header byte to the last payload byte (rule R148). -/
theorem replySum_rspupBytes (st : Byte) (e : Params) (d : List Byte) (x : Byte) :
    replySum (rspupBytes st e d x) (13 + d.length) = sumBytes ([0x00, 0x08, 0x00, st] ++ e.toList ++ d) := by
  rw [replySum, cksum, show 13 + d.length - 3 + 1 - 1 = d.length + 10 by omega, rspupBytes_eq, params_toList]
  simp

theorem envelope_rspupBytes (st : Byte) (e : Params) (d : List Byte) (x : Byte) :
    envelope (rspupBytes st e d x) =
      #v[0x7E, 0x00, 0x08, 0x00, st, e[0], e[1], e[2], e[3], e[4], e[5], x, 0xE7] := by
  rw [envelope, rspupBytes_length, rspupBytes_checksum, rspupBytes_tail, rspupBytes_eq]
  rfl

/-- The state in which an upload reply is judged (rules R31, R33, R145). -/
theorem received_rspupBytes (st : Byte) (e : Params) (d : List Byte) (x : Byte) (s : State) :
    received (rspupBytes st e d x) (13 + d.length) s =
      { s with
        rb := #v[0x7E, 0x00, 0x08, 0x00, st, e[0], e[1], e[2], e[3], e[4], e[5], x, 0xE7]
        ck := if s.ctrl = 1 then sumBytes ([0x00, 0x08, 0x00, st] ++ e.toList ++ d) else s.ck } := by
  simp only [received, envelope_rspupBytes, replyCk, envelopeOk_rspupBytes, replySum_rspupBytes, rxck, Bool.true_and,
    beq_iff_eq]

/-- A right checksum, or one that is not compared, passes DECODE (rule R145). -/
theorem replyCheck_rspupBytes {s : State} {st : Byte} {e : Params} {d : List Byte} {x : Byte}
    (hx : s.ctrl = 1 → x = sumBytes ([0x00, 0x08, 0x00, st] ++ e.toList ++ d)) :
    ∃ r : Reply, r.status = st ∧ replyCheck (rxck s) (rspupBytes st e d x) (13 + d.length) = .ok r := by
  rcases replyCheck_cases (rxck s) (rspupBytes st e d x) (13 + d.length) with ⟨he, -⟩ | ⟨-, hc, hs, -⟩ | ⟨-, -, h⟩
  · rw [envelopeOk_rspupBytes] at he
    cases he
  · rw [rspupBytes_checksum, replySum_rspupBytes] at hs
    exact absurd (hx (beq_iff_eq.mp hc)) hs
  · exact ⟨_, rfl, h⟩

/-- A wrong checksum that is compared does not pass DECODE (rule R145). -/
theorem replyCheck_rspupBytes_of_wrong_sum {s : State} {st : Byte} {e : Params} {d : List Byte} {x : Byte}
    (hc : s.ctrl = 1) (hx : x ≠ sumBytes ([0x00, 0x08, 0x00, st] ++ e.toList ++ d)) :
    replyCheck (rxck s) (rspupBytes st e d x) (13 + d.length) = .error .checksum := by
  rcases replyCheck_cases (rxck s) (rspupBytes st e d x) (13 + d.length) with ⟨he, -⟩ | ⟨-, -, -, h⟩ | ⟨-, hs, -⟩
  · rw [envelopeOk_rspupBytes] at he
    cases he
  · exact h
  · rw [rspupBytes_checksum, replySum_rspupBytes] at hs
    exact absurd (hs (beq_iff_eq.mpr hc)) hx

/-! ### What UP_RX makes of the checks (rule R226) -/

/-- A reply that DECODE refuses is skipped with DECODE's kind (rules R226, R232). -/
theorem upRx_of_refused {v : List Byte} {s : State} {n : Nat} {k : ErrKind} (hn : s.rxNeed.toNat = n)
    (hr : replyCheck (rxck s) v n = .error k) : upRx v s = advance (skip k (received v n s)) := by
  subst hn
  rcases upRx_cases v s with ⟨k', hk, hc⟩ | ⟨r, hk, -⟩ <;> rw [hr] at hk <;> cases hk
  exact hc

/-- A nonzero status skips the packet with DEVICE (rules R151, R226). -/
theorem upRx_of_device_error {v : List Byte} {s : State} {n : Nat} {r : Reply} (hn : s.rxNeed.toNat = n)
    (hr : replyCheck (rxck s) v n = .ok r) (hst : r.status ≠ 0) :
    upRx v s = advance (skip .device (received v n s)) := by
  subst hn
  have hstat : statusCheck r.status = .error .device := if_neg hst
  rcases upRx_cases v s with ⟨k, hk, -⟩ | ⟨r', hk, ⟨k, hd, hc⟩ | ⟨hd, -⟩⟩ <;> rw [hr] at hk <;> cases hk <;>
    rw [hstat] at hd <;> cases hd
  exact hc

/-- A reply that passes DECODE with status zero has its payload appended (rules R226, R230). -/
theorem upRx_of_accepted {v : List Byte} {s : State} {n : Nat} {r : Reply} (hn : s.rxNeed.toNat = n)
    (hr : replyCheck (rxck s) v n = .ok r) (hst : r.status = 0) :
    upRx v s = advance (append ((v.drop 11).take (n - 13)) (received v n s)) := by
  subst hn
  have hstat : statusCheck r.status = .ok () := if_pos hst
  rcases upRx_cases v s with ⟨k, hk, -⟩ | ⟨r', hk, ⟨k, hd, -⟩ | ⟨-, hc⟩⟩ <;> rw [hr] at hk <;> cases hk
  · rw [hstat] at hd
    cases hd
  · exact hc

/-- An upload reply with status zero and a right checksum has exactly its payload appended (rules R227, R230). -/
theorem upRx_rspupBytes_of_good {s : State} {e : Params} {d : List Byte} {x : Byte}
    (hn : s.rxNeed.toNat = 13 + d.length)
    (hx : s.ctrl = 1 → x = sumBytes ([0x00, 0x08, 0x00, 0x00] ++ e.toList ++ d)) :
    upRx (rspupBytes 0 e d x) s = advance (append d (received (rspupBytes 0 e d x) (13 + d.length) s)) := by
  obtain ⟨r, hst, hr⟩ := replyCheck_rspupBytes hx
  rw [upRx_of_accepted hn hr hst, Nat.add_sub_cancel_left, rspupBytes_payload]

/-! ### The row RSPUP (log entry 4) -/

/-- Where a packet awaits a reply of its length, RSPUP is UP_RX on its bytes (rule R226). -/
theorem exec_rspup_of_upload {s : State} (st : Byte) (e : Params) {d : List Byte} (x : Byte) (hr : s.mstep = .rx)
    (hu : s.sstate = .uploading) (hn : s.rxNeed.toNat = 13 + d.length) :
    exec (.rspup st e d x) s = .next (upRx (rspupBytes st e d x) s) := by
  have hl : (rspupBytes st e d x).length = readLen s :=
    (rspupBytes_length st e d x).trans (hn.symm.trans (readLen_of_upload hu).symm)
  rw [exec_of_window (c := s.cfg) rfl hr hl, rxWindow, if_pos hu]

/-- Settles O26: APPEND of the payload to the state the reply is judged in, then NEXT. -/
theorem goodPacketAppended : Obligations.GoodPacketAppended := by
  intro s e d x hr hu hn hx
  refine ⟨_, (exec_rspup_of_upload 0 e x hr hu hn).trans (congrArg _ (upRx_rspupBytes_of_good hn hx)),
    fun a ha => ?_, fun j hj => ?_, ?_⟩
  · rw [advance_img]
    exact read_write_outside s.img ha
  · rw [advance_img]
    exact read_write_inside s.img hj
  · have hck : (if s.ctrl = 1 then sumBytes ([0x00, 0x08, 0x00, 0x00] ++ e.toList ++ d) else s.ck) =
        if s.ctrl = 1 then x else s.ck :=
      if_ctx_congr Iff.rfl (fun hc => (hx hc).symm) fun _ => rfl
    rw [advance_eq, received_rspupBytes, hck]
    simp only [append, completionErr, hu]

/-- Settles O27: SKIP with the kind of the first check that fails, then NEXT. -/
theorem badPacketSkipped : Obligations.BadPacketSkipped := by
  rintro s st e d x sum hr hu hn rfl k hk
  have skipped : upRx (rspupBytes st e d x) s =
      advance (skip k (received (rspupBytes st e d x) (13 + d.length) s)) := by
    obtain ⟨hc, hx, rfl⟩ | ⟨hx, hst, rfl⟩ := hk
    · exact upRx_of_refused hn (replyCheck_rspupBytes_of_wrong_sum hc hx)
    · obtain ⟨r, hrs, hrc⟩ := replyCheck_rspupBytes hx
      exact upRx_of_device_error hn hrc (hrs ▸ hst)
  rw [exec_rspup_of_upload st e x hr hu hn, skipped, advance_eq, received_rspupBytes]
  simp only [skip, completionErr, hu]

/-! ### A window that is no frame -/

/-- An upload's read takes the oldest bytes, as many as it asks for, and UP_RX judges them (rules R226, R256). -/
theorem ctrlMove_of_packet {s : State} {v rest : List Byte} (hr : s.mstep = .rx) (hu : s.sstate = .uploading)
    (hf : s.rxFifo = v ++ rest) (hv : v.length = s.rxNeed.toNat) :
    ctrlMove s = .next (upRx v { s with rxFifo := rest }) := by
  have hn : readLen s = v.length := (readLen_of_upload hu).trans hv.symm
  rcases ctrlRx_cases hr with ⟨-, hc⟩ | ⟨hlt, -⟩
  · rw [ctrlMove_of_rx hr, hc, rxWindow, if_pos hu, hn, hf, List.take_left, List.drop_left]
  · rw [hn, hf, List.length_append] at hlt
    omega

/-- The envelope is the first eleven bytes of a window and its last two (rule R31). -/
theorem envelope_toList_of_le {v : List Byte} (hv : 13 ≤ v.length) :
    (envelope v).toList = v.take 11 ++ v.drop (v.length - 2) := by
  match v, hv with
  | a0 :: a1 :: a2 :: a3 :: a4 :: a5 :: a6 :: a7 :: a8 :: a9 :: a10 :: r, hv =>
    simp only [List.length_cons] at hv
    obtain ⟨x, y, hxy⟩ := List.length_eq_two.mp (show (r.drop (r.length - 2)).length = 2 by simp; omega)
    obtain ⟨m, rfl⟩ : ∃ m, r = m ++ [x, y] := ⟨r.take (r.length - 2), by rw [← hxy, List.take_append_drop]⟩
    simp [envelope]

/-- Settles O34: the window fails `envelopeOk`, so that it is skipped, and `RB` holds its envelope. -/
theorem malformedPacketSkipped : Obligations.MalformedPacketSkipped := by
  intro s v rest hr hu hneed hf hv hbad
  have he : envelopeOk v s.rxNeed.toNat = false := by
    refine Bool.eq_false_iff.mpr fun hok => ?_
    obtain ⟨-, hh, ht⟩ := envelopeOk_iff.mp hok
    rcases hbad with hbad | hbad
    · exact hbad hh
    · exact hbad (hv ▸ ht)
  refine ⟨_, (ctrlMove_of_packet hr hu hf hv).trans (congrArg _ (upRx_of_bad_envelope he)), ?_, ?_⟩
  · rw [advance_eq]
    exact envelope_toList_of_le (hv ▸ hneed)
  · rw [advance_eq]
    simp only [skip, completionErr, hu]

end Sys2Proof.Machine
end

section
/-! PROOFS. Everything a CTRL step in UPLOADING can do: none of it ends the session or closes the link. -/

namespace Sys2Proof.Machine

/-! ### What NEXT keeps (rule R231) -/

@[simp] theorem advance_op (s : State) : (advance s).op = s.op := by rw [advance_eq]

@[simp] theorem advance_linkOpen (s : State) : (advance s).linkOpen = s.linkOpen := by rw [advance_eq]

@[simp] theorem advance_skipCount (s : State) : (advance s).skipCount = s.skipCount := by rw [advance_eq]

@[simp] theorem advance_pktErr (s : State) : (advance s).pktErr = s.pktErr := by rw [advance_eq]

theorem advance_sstate_cases (s : State) : (advance s).sstate = s.sstate ∨ (advance s).sstate = .ready := by
  rcases advance_cases s with ⟨-, h⟩ | ⟨-, h⟩ <;> rw [h]
  · exact .inr rfl
  · exact .inl rfl

/-! ### The steps of a packet -/

/-- Everything CTRL can do with the packet in hand: request it, skip it with a kind, or append its payload
(rules R224, R226, R229). -/
inductive PacketStep (s : State) : State → Prop
  | requested : s.mstep = .tx → PacketStep s (upTx s.idx s.packetCount s)
  | timedOut : s.mstep = .rx → PacketStep s (advance (skip .timeout (tReadTimeout s)))
  | skipped (k : ErrKind) : s.mstep = .rx → k ≠ .ok → PacketStep s (advance (skip k (judged s)))
  | appended : s.mstep = .rx → readLen s ≤ s.rxFifo.length →
      PacketStep s (advance (append (((window s).drop 11).take (readLen s - 13)) (judged s)))

theorem AtPacket.ctrlMove_step {s t : State} (h : AtPacket s) (ht : ctrlMove s = .next t) : PacketStep s t := by
  have hu := h.session
  rcases ctrlMove_cases s with
    ⟨hm, -⟩ | ⟨hm, -, hc⟩ | ⟨-, hne, -⟩ | ⟨hr, hl, hc⟩ | ⟨hr, -, hc⟩ | ⟨hm, -⟩
  · exact absurd hm h.not_idle
  · cases hc.symm.trans ht
    exact .requested hm
  · exact absurd hu hne
  · rw [rxWindow, if_pos hu] at hc
    cases hc.symm.trans ht
    have hj : received (window s) s.rxNeed.toNat { s with rxFifo := s.rxFifo.drop (readLen s) } = judged s := by
      rw [judged, readLen_of_upload hu]
    rcases upRx_cases (window s) { s with rxFifo := s.rxFifo.drop (readLen s) } with
      ⟨k, hk, hx⟩ | ⟨r, -, ⟨k, hk, hx⟩ | ⟨-, hx⟩⟩ <;> rw [← window, hx, hj]
    · exact .skipped k hr (replyCheck_ne_ok hk)
    · exact .skipped k hr (statusCheck_ne_ok hk)
    · rw [← readLen_of_upload hu]
      exact .appended hr hl
  · rw [rxTimeout, if_pos hu] at hc
    cases hc.symm.trans ht
    exact .timedOut hr
  · exact absurd hm h.not_switch

theorem PacketStep.keeps_session {s t : State} (p : PacketStep s t) (h : AtPacket s) :
    t.linkOpen = true ∧ (t.sstate = .uploading ∨ t.sstate = .ready) := by
  have advanced {u : State} (hl : u.linkOpen = s.linkOpen) (hs : u.sstate = s.sstate) :
      (advance u).linkOpen = true ∧ ((advance u).sstate = .uploading ∨ (advance u).sstate = .ready) :=
    ⟨(advance_linkOpen u).trans (hl.trans h.link),
      (advance_sstate_cases u).imp_left fun hk => hk.trans (hs.trans h.session)⟩
  cases p with
  | requested => exact ⟨by simpa using h.link, .inl (by simpa using h.session)⟩
  | timedOut | skipped | appended => exact advanced (by simp) (by simp)

/-- A counted skip does not wrap `skip_count` (rules R228, R232). -/
theorem AtPacket.skipCount_succ {s : State} (h : AtPacket s) : (s.skipCount + 1).toNat = s.skipCount.toNat + 1 := by
  have hs := h.skip_bound
  have hi := h.index_pos
  exact toNat_add_one_of_lt (y := s.idx) (by omega)

/-- A packet in hand is appended whole or counted as skipped with its kind (rules R230, R232). -/
theorem PacketStep.account {s t : State} (p : PacketStep s t) (h : AtPacket s) (hr : s.mstep = .rx) :
    (t.skipCount = s.skipCount ∧ t.bufLen.toNat = s.bufLen.toNat + expectedLength s s.idx) ∨
    (t.skipCount.toNat = s.skipCount.toNat + 1 ∧ t.bufLen = s.bufLen ∧ t.img = s.img ∧ t.pktErr ≠ .ok) := by
  cases p with
  | requested ht =>
    rw [hr] at ht
    cases ht
  | timedOut => exact .inr ⟨by simpa using h.skipCount_succ, by simp, by simp, by simp⟩
  | skipped k _ hk => exact .inr ⟨by simpa using h.skipCount_succ, by simp, by simp, by simpa using hk⟩
  | appended _ hl =>
    have hd := h.payload_length hr hl
    have hb := (h.append_bufLen (hd.trans_le (expectedLength_le s s.idx))).1
    rw [hd] at hb
    exact .inl ⟨by simp, (congrArg BitVec.toNat (advance_bufLen _)).trans hb⟩

/-- Settles O55: `PacketStep` of the move made with the shorter schedule. -/
theorem packetFailureKeepsSession : Obligations.PacketFailureKeepsSession := by
  intro s t h hu hn hs
  have hp := (inv_of_hostSide h s.ctrl s.agenda.tail s.hostReg s.hostMem s.draws).atPacket hu
  rw [step_eq_runMove, hn] at hs
  have p := hp.ctrlMove_step hs
  obtain ⟨hlink, hsession⟩ := p.keeps_session hp
  exact ⟨hlink, hsession, p.account hp⟩

end Sys2Proof.Machine
end

section
/-! PROOFS. The run of UPLOAD: an account of the packets that are done, kept by the request and by either answer of the
camera, and the induction over the packets to come. -/

namespace Sys2Proof.Machine

/-! ### Runs -/

/-- A run goes on from the state another one has reached. -/
theorem run_trans {s u t : State} {j k : Nat} (h : Host.Core.run core j s = .next u)
    (h' : Host.Core.run core k u = .next t) : Host.Core.run core (j + k) s = .next t := by
  induction j generalizing s with
  | zero =>
    cases h
    rwa [Nat.zero_add]
  | succ j ih =>
    obtain ⟨v, hv, hr⟩ := run_succ_eq_next h
    rw [Nat.succ_add]
    exact run_of_step hv (ih hr)

/-! ### What the camera's answers add up to (rule R73) -/

theorem assembled_concat (l : List (Option (List Byte))) (o : Option (List Byte)) :
    assembled (l ++ [o]) = assembled l ++ o.getD [] := by
  simp [assembled]

/-- APPEND at the end of an image makes it the longer image, byte by byte (rule R230). -/
theorem imgByte_append {s : State} {l d : List Byte} (hl : s.bufLen.toNat = l.length)
    (hi : ∀ a, imgByte s a = l[a]?) (hb : (append d s).bufLen.toNat = l.length + d.length) (a : Nat) :
    imgByte (append d s) a = (l ++ d)[a]? := by
  rw [imgByte, hb, append_img, hl]
  rcases Nat.lt_or_ge a l.length with ha | ha
  · have hold : imgByte s a = s.img.read a := if_pos (hl ▸ ha)
    rw [if_pos (by omega), read_write_outside s.img (.inl ha), ← hold, hi, List.getElem?_append_left ha]
  · rw [List.getElem?_append_right ha]
    obtain ⟨j, rfl⟩ := Nat.exists_eq_add_of_le ha
    rw [Nat.add_sub_cancel_left]
    by_cases hj : j < d.length
    · rw [if_pos (by omega), read_write_inside s.img hj, List.getElem?_eq_getElem hj]
    · rw [if_neg (by omega), List.getElem?_eq_none (by omega)]

/-! ### The account of an upload -/

/-- The wire history of the requests for the packets 1 to `n`, in order, at the rate of `s` (rules R224, R254). -/
def requests (s : State) (n : Nat) : List (BitVec 3 × Byte) :=
  (List.range n).flatMap fun j =>
    (frameOf s.cfg.opcUpload (paramsUpload (BitVec.ofNat 16 (j + 1)) s.packetCount)).toList.map
      fun x => (s.baudSel, x)

theorem requests_succ (s : State) (n : Nat) :
    requests s (n + 1) = requests s n ++
      (frameOf s.cfg.opcUpload (paramsUpload (BitVec.ofNat 16 (n + 1)) s.packetCount)).toList.map
        (fun x => (s.baudSel, x)) := by
  simp [requests, List.range_succ]

/-- How an UPLOAD issued in `s` stands in `t`, with the packets `done` answered or lost and `n` requests sent: the
capture and the rate are those of `s`, the image is the answered payloads, the lost ones are counted. -/
structure Progress (s : State) (done : List (Option (List Byte))) (n : Nat) (t : State) : Prop where
  cfg : t.cfg = s.cfg
  baudSel : t.baudSel = s.baudSel
  pktSel : t.pktSel = s.pktSel
  packetCount : t.packetCount = s.packetCount
  totalBytes : t.totalBytes = s.totalBytes
  skipCount : t.skipCount.toNat = done.count none
  bufLen : t.bufLen.toNat = (assembled done).length
  image : ∀ a, imgByte t a = (assembled done)[a]?
  txLog : t.txLog = s.txLog ++ requests s n

section

variable {s t : State} {done : List (Option (List Byte))} {n : Nat}

/-- The account does not speak of the schedule, of the queue, or of what the last reply left. -/
theorem Progress.of_receive (h : Progress s done n t) (l : List Move) (v : List Byte) (b : Frame) (c : Byte) :
    Progress s done n { t with agenda := l, rxFifo := v, rb := b, ck := c } :=
  ⟨h.cfg, h.baudSel, h.pktSel, h.packetCount, h.totalBytes, h.skipCount, h.bufLen, h.image, h.txLog⟩

/-- UP_TX of packet `n + 1` sends the next request (rule R224). -/
theorem Progress.upTx (h : Progress s done n t) (hi : t.idx.toNat = n + 1) :
    Progress s done (n + 1) (upTx t.idx t.packetCount t) where
  cfg := by simpa using h.cfg
  baudSel := by simpa using h.baudSel
  pktSel := by simpa using h.pktSel
  packetCount := by simpa using h.packetCount
  totalBytes := by simpa using h.totalBytes
  skipCount := by simpa using h.skipCount
  bufLen := by simpa using h.bufLen
  image := by simpa [imgByte] using h.image
  txLog := by
    have hidx : t.idx = BitVec.ofNat 16 (n + 1) := by rw [← hi, BitVec.ofNat_toNat, BitVec.setWidth_eq]
    rw [upTx_txLog, h.txLog, requests_succ, ← hidx, h.cfg, h.baudSel, h.packetCount, List.append_assoc]
    rfl

/-- An appended payload joins the image (rule R230). -/
theorem Progress.append (h : Progress s done n t) {d : List Byte}
    (hb : (append d t).bufLen.toNat = t.bufLen.toNat + d.length) :
    Progress s (done ++ [some d]) n (append d t) where
  cfg := h.cfg
  baudSel := h.baudSel
  pktSel := h.pktSel
  packetCount := h.packetCount
  totalBytes := h.totalBytes
  skipCount := by simpa using h.skipCount
  bufLen := by rw [hb, h.bufLen, assembled_concat, List.length_append, Option.getD_some]
  image := by
    rw [assembled_concat, Option.getD_some]
    exact imgByte_append h.bufLen h.image (h.bufLen ▸ hb)
  txLog := h.txLog

/-- A skipped packet is counted and adds nothing to the image (rule R232). -/
theorem Progress.skip (h : Progress s done n t) (k : ErrKind)
    (hs : (t.skipCount + 1).toNat = t.skipCount.toNat + 1) : Progress s (done ++ [none]) n (skip k t) where
  cfg := h.cfg
  baudSel := h.baudSel
  pktSel := h.pktSel
  packetCount := h.packetCount
  totalBytes := h.totalBytes
  skipCount := by rw [skip_skipCount, hs, h.skipCount, List.count_append, List.count_singleton_self]
  bufLen := by simpa [assembled_concat] using h.bufLen
  image := by
    rw [assembled_concat, Option.getD_none, List.append_nil]
    exact h.image
  txLog := h.txLog

end

/-! ### One packet -/

/-- The packet after `done` is in hand at micro-step `m`, with `n` requests sent and nothing queued. -/
structure InHand (m : MicroStep) (s : State) (done : List (Option (List Byte))) (n : Nat) (t : State) : Prop
    extends AtPacket t, Progress s done n t where
  position : t.mstep = m
  queue : t.rxFifo = []
  index : t.idx.toNat = done.length + 1

/-- The last packet of `done` has just been appended or skipped, and NEXT is to come. -/
structure PacketDone (s : State) (done : List (Option (List Byte))) (t : State) : Prop
    extends InUpload t, Stored t, Progress s done done.length t where
  queue : t.rxFifo = []
  index : t.idx.toNat = done.length

section

variable {s t : State} {m : MicroStep} {done : List (Option (List Byte))} {n : Nat}

/-- A packet stays in hand whatever is scheduled and queued. -/
theorem AtPacket.of_schedule (h : AtPacket t) (l : List Move) (v : List Byte) :
    AtPacket { t with agenda := l, rxFifo := v } :=
  (inv_of_linkOpen (inv_of_hostSide h.inv t.ctrl l t.hostReg t.hostMem t.draws) h.link v).atPacket h.session

theorem InHand.of_agenda (h : InHand m s done n t) (l : List Move) : InHand m s done n { t with agenda := l } where
  toAtPacket := h.toAtPacket.of_schedule l t.rxFifo
  toProgress := h.toProgress.of_receive l t.rxFifo t.rb t.ck
  position := h.position
  queue := h.queue
  index := h.index

/-- The request goes out, and the reply is awaited (rule R224). -/
theorem InHand.request (h : InHand .tx s done done.length t) :
    InHand .rx s done (done.length + 1) (upTx t.idx t.packetCount t) where
  toAtPacket := h.toAtPacket.upTx
  toProgress := h.toProgress.upTx h.index
  position := upTx_mstep _ _ t
  queue := (upTx_rxFifo _ _ t).trans h.queue
  index := (congrArg BitVec.toNat (upTx_idx _ _ t)).trans h.index

/-- A packet that has been answered is done: its payload is in the image and nothing of its reply is left queued. -/
theorem InHand.answered (h : InHand .rx s done (done.length + 1) t) {d : List Byte} (hd : d.length ≤ 2048)
    (l : List Move) {v : List Byte} (hv : v.length = t.rxNeed.toNat) :
    PacketDone s (done ++ [some d]) (append d (judged { t with agenda := l, rxFifo := v })) := by
  have hp := h.toAtPacket.of_schedule l v
  have hread : readLen { t with agenda := l, rxFifo := v } = v.length := (readLen_of_upload h.session).trans hv.symm
  exact
    { toInUpload := hp.toInUpload.judged.append d
      toStored := hp.append_stored hd
      toProgress := by
        rw [List.length_append]
        exact Progress.append (h.toProgress.of_receive l _ _ _) (hp.append_bufLen hd).1
      queue := by rw [append_rxFifo, judged_rxFifo, hread, List.drop_length]
      index := by rw [List.length_append]; exact h.index }

/-- A packet that has timed out is done: it is counted as lost (rule R229). -/
theorem InHand.silent (h : InHand .rx s done (done.length + 1) t) (l : List Move) :
    PacketDone s (done ++ [none]) (skip .timeout (tReadTimeout { t with agenda := l })) where
  toInUpload := (h.of_agenda l).toInUpload.tReadTimeout.skip .timeout
  toStored := ((h.of_agenda l).skip_stored .timeout).congr (by simp) (by simp) (by simp) (by simp)
  toProgress := by
    rw [List.length_append]
    exact Progress.skip (h.toProgress.of_receive l [] t.rb t.ck) .timeout h.skipCount_succ
  queue := rfl
  index := by rw [List.length_append]; exact h.index

/-! ### The moves of one packet -/

/-- CTRL requests the packet in hand (rule R224). -/
theorem InHand.step_request {rest : List Move} (h : InHand .tx s done n t) (ha : t.agenda = .ctrl :: rest) :
    step t = .next (upTx t.idx t.packetCount { t with agenda := rest }) := by
  have hr := h.of_agenda rest
  rw [step_of_agenda_cons ha]
  exact (ctrlMove_of_tx hr.position).trans
    ((ctrlTx_of_uploading hr.session).trans (exec_wUpload_of_enabled hr.position hr.session))

theorem InHand.readLen_eq (h : InHand .rx s done n t) : readLen t = 13 + expectedLength s t.idx := by
  rw [readLen_of_upload h.session, h.need h.position,
    expectedLength_congr h.packetCount h.pktSel h.totalBytes]

/-- With nothing queued the read of the packet in hand times out (rules R229, R258). -/
theorem InHand.step_timeout {rest : List Move} (h : InHand .rx s done n t) (ha : t.agenda = .ctrl :: rest) :
    step t = .next (advance (skip .timeout (tReadTimeout { t with agenda := rest }))) := by
  have hr := h.of_agenda rest
  have hshort : t.rxFifo.length < readLen t := by
    rw [h.queue, h.readLen_eq, List.length_nil]
    omega
  rw [step_of_agenda_cons ha]
  exact (ctrlMove_of_short_queue hr.position hshort).trans (congrArg _ (if_pos hr.session))

/-- The camera's good reply is judged as RSPUP is, and its payload appended (rules R226, R227). -/
theorem ctrlMove_of_upReply {d : List Byte} (hr : t.mstep = .rx) (hu : t.sstate = .uploading)
    (hn : t.rxNeed.toNat = 13 + d.length) (hf : t.rxFifo = upReply d) :
    ctrlMove t = .next (advance (append d (judged t))) := by
  have hlen : (upReply d).length = t.rxNeed.toNat := (rspupBytes_length _ _ _ _).trans hn.symm
  have hread : readLen t = (upReply d).length := (readLen_of_upload hu).trans hlen.symm
  have hj : judged t = received (upReply d) (13 + d.length) { t with rxFifo := [] } := by
    rw [judged, window, hread, hf, List.take_length, List.drop_length, hlen, hn]
  rw [ctrlMove_of_packet (rest := []) hr hu (by rw [hf, List.append_nil]) hlen, hj]
  exact congrArg _ (upRx_rspupBytes_of_good hn fun _ => rfl)

/-- The bytes of the camera's reply to the packet in hand, and the step that takes them (rules R226, R262). -/
theorem InHand.run_answer {d : List Byte} {rest : List Move} (h : InHand .rx s done (done.length + 1) t)
    (ha : t.agenda = devBytes (upReply d) ++ .ctrl :: rest) (hd : d.length = expectedLength s t.idx) :
    ∃ w, Host.Core.run core (1 + (upReply d).length) t = .next (advance w) ∧ w.agenda = rest ∧
      PacketDone s (done ++ [some d]) w := by
  have hneed : t.rxNeed.toNat = 13 + d.length := by rw [← readLen_of_upload h.session, h.readLen_eq, hd]
  have hstep : step { t with agenda := .ctrl :: rest, rxFifo := t.rxFifo ++ upReply d } =
      .next (advance (append d (judged { t with agenda := rest, rxFifo := upReply d }))) := by
    rw [h.queue, List.nil_append, step_of_agenda_cons rfl]
    exact ctrlMove_of_upReply (t := { t with agenda := rest, rxFifo := upReply d }) h.position h.session hneed rfl
  exact ⟨_, run_of_devBytes h.link ha (run_of_step hstep rfl), rfl,
    h.answered (hd.trans_le (expectedLength_le _ _)) rest ((rspupBytes_length _ _ _ _).trans hneed.symm)⟩

/-- A packet in hand, through its request and the camera's answer or silence, up to NEXT. -/
theorem InHand.run_packet {o : Option (List Byte)} {rest : List Move} (h : InHand .tx s done done.length t)
    (ha : t.agenda = packetMoves o ++ rest) (hd : ∀ d, o = some d → d.length = expectedLength s t.idx) :
    ∃ w, Host.Core.run core (packetMoves o).length t = .next (advance w) ∧ w.agenda = rest ∧
      PacketDone s (done ++ [o]) w := by
  cases o with
  | none =>
    have ha : t.agenda = .ctrl :: .ctrl :: rest := ha
    have hq := (h.of_agenda (.ctrl :: rest)).request
    have hstep := hq.step_timeout (upTx_agenda _ _ _)
    exact ⟨_, run_of_step (h.step_request ha) (run_of_step hstep rfl), rfl, hq.silent rest⟩
  | some d =>
    have ha : t.agenda = .ctrl :: (devBytes (upReply d) ++ .ctrl :: rest) := by simpa [packetMoves] using ha
    have hq := (h.of_agenda (devBytes (upReply d) ++ .ctrl :: rest)).request
    obtain ⟨w, hrun, hw⟩ := hq.run_answer (upTx_agenda _ _ _) (by rw [upTx_idx]; exact hd d rfl)
    have hlen : (packetMoves (some d)).length = 1 + (upReply d).length + 1 := by
      simp [packetMoves, devBytes]
      omega
    exact ⟨w, hlen ▸ run_of_step (h.step_request ha) hrun, hw⟩

end

/-! ### The whole upload -/

section

variable {s t : State} {done : List (Option (List Byte))}

/-- NEXT takes the following packet in hand while there is one (rule R231). -/
theorem PacketDone.next (h : PacketDone s done t) (hlt : done.length < s.packetCount.toNat) :
    InHand .tx s done done.length (advance t) := by
  have hne : t.idx ≠ t.packetCount := by
    intro he
    have hi := h.index
    rw [he, h.packetCount] at hi
    omega
  have hinv := h.toInUpload.advance_inv h.toStored
  obtain ⟨he, -⟩ | ⟨-, he⟩ := advance_cases t
  · exact absurd he hne
  · rw [he] at hinv ⊢
    have hidx : (t.idx + 1).toNat = t.idx.toNat + 1 :=
      toNat_add_one_of_lt (y := s.packetCount) (h.index ▸ hlt)
    exact
      { toAtPacket := hinv.atPacket h.session
        toProgress :=
          ⟨h.cfg, h.baudSel, h.pktSel, h.packetCount, h.totalBytes, h.skipCount, h.bufLen, h.image, h.txLog⟩
        position := rfl
        queue := h.queue
        index := hidx.trans (congrArg (· + 1) h.index) }

/-- NEXT ends the upload after its last packet: the result is OK exactly when the total is reached (rules R231, R233). -/
theorem PacketDone.finish (h : PacketDone s done t) (heq : done.length = s.packetCount.toNat) :
    advance t = { t with
      err := if (assembled done).length = s.totalBytes.toNat then .ok else .incomplete
      sstate := .ready, mstep := .idle } := by
  have hlast : t.idx = t.packetCount := by
    rw [h.packetCount]
    exact BitVec.eq_of_toNat_eq (h.index.trans heq)
  obtain ⟨-, he⟩ | ⟨hne, -⟩ := advance_cases t
  · rw [he, completionErr, h.bufLen, h.totalBytes]
  · exact absurd hlast hne

/-- All packets to come, one after the other: by induction on them, the packets that are done growing (rule R221). -/
theorem InHand.run_packets {todo : List (Option (List Byte))} (h : InHand .tx s done done.length t)
    (ha : t.agenda = todo.flatMap packetMoves) (hne : todo ≠ [])
    (hn : s.packetCount.toNat = done.length + todo.length)
    (hd : ∀ j d, todo[j]? = some (some d) →
      d.length = expectedLength s (BitVec.ofNat 16 (done.length + j + 1))) :
    ∃ w, Host.Core.run core t.agenda.length t = .next (advance w) ∧ PacketDone s (done ++ todo) w := by
  induction todo generalizing done t with
  | nil => exact absurd rfl hne
  | cons o todo ih =>
    have hidx : t.idx = BitVec.ofNat 16 (done.length + 0 + 1) := by
      rw [Nat.add_zero, ← h.index, BitVec.ofNat_toNat, BitVec.setWidth_eq]
    rw [List.flatMap_cons] at ha
    obtain ⟨w, hrun, hrest, hw⟩ := h.run_packet ha fun d ho => hidx ▸ hd 0 d (congrArg some ho)
    rw [ha, List.length_append]
    by_cases hlast : todo = []
    · subst hlast
      exact ⟨w, run_trans hrun rfl, hw⟩
    · rw [List.length_cons] at hn
      have hlen : (done ++ [o]).length = done.length + 1 := List.length_append
      have hnext := hw.next (by
        have := List.length_pos_iff.mpr hlast
        omega)
      have hagenda : (advance w).agenda = todo.flatMap packetMoves := by rw [advance_eq]; exact hrest
      obtain ⟨v, hrun', hv⟩ := ih hnext hagenda hlast (by omega) fun j d hj => by
        rw [hlen, Nat.add_right_comm done.length 1 j]
        exact hd (j + 1) d hj
      rw [hagenda] at hrun'
      exact ⟨v, run_trans hrun hrun', by simpa using hv⟩

end

/-- The first step of UPLOAD's run: the word's code is 7, and the issue is accepted (rules R114, R221). -/
theorem step_upload {s : State} {rest : List Move} (ha : s.agenda = .host 0x7000000000 :: rest) (hm : s.mstep = .idle)
    (hs : s.sstate = .ready) (hv : s.capValid = true) (hn : s.packetCount ≠ 0) :
    step s = .next
      { s with
        agenda := rest, err := .ok, op := .upload, bufLen := 0, img := [], skipCount := 0, pktErr := .ok, idx := 1
        sstate := .uploading, mstep := .tx } := by
  rw [step_of_agenda_cons ha]
  exact (exec_upload_of_legal (s := { s with agenda := rest }) hm hs hv).trans (congrArg _ (if_neg hn))

/-- An accepted UPLOAD takes the first packet in hand, whatever a previous upload left (rules R81, R221). -/
theorem inHand_of_uploadIssued {s : State} (l : List Move) (hv : s.capValid = true) (ho : s.linkOpen = true)
    (hf : s.rxFifo = []) (hn : 1 ≤ s.packetCount.toNat) :
    InHand .tx s [] 0
      { s with
        agenda := l, err := .ok, op := .upload, bufLen := 0, img := [], skipCount := 0, pktErr := .ok, idx := 1
        sstate := .uploading, mstep := .tx } where
  toAtPacket := ⟨⟨rfl, rfl, ho, rfl, hv, le_rfl, hn⟩, .inl rfl, Nat.zero_le _, Nat.zero_le _, rfl, by simp⟩
  toProgress := ⟨rfl, rfl, rfl, rfl, rfl, rfl, rfl, imgByte_of_bufLen_zero rfl, (List.append_nil _).symm⟩
  position := rfl
  queue := hf
  index := rfl

/-- Settles O60: the issue, then `InHand.run_packets` from the first packet, and NEXT after the last one. -/
theorem uploadRunAssemblesAnsweredPackets : Obligations.UploadRunAssemblesAnsweredPackets := by
  intro s packets hm hs hv ho hf hpos hn hd ha
  have hcount : s.packetCount ≠ 0 := by
    intro h0
    rw [← hn, h0] at hpos
    exact absurd hpos (by decide)
  have hfirst := inHand_of_uploadIssued (packets.flatMap packetMoves) hv ho hf (hn ▸ hpos)
  obtain ⟨w, hrun, hw⟩ := hfirst.run_packets rfl (List.ne_nil_of_length_pos hpos) (by simpa using hn)
    (by simpa using hd)
  rw [List.nil_append] at hw
  refine ⟨advance w, ?_, ?_⟩
  · rw [ha, List.length_cons]
    exact run_of_step (step_upload ha hm hs hv hcount) hrun
  · rw [hw.finish hn.symm]
    exact ⟨rfl, rfl, hw.operation, hw.link, hw.queue, BitVec.eq_of_toNat_eq (hw.index.trans hn.symm), hw.skipCount,
      hw.bufLen, hw.image, rfl, hw.txLog⟩

end Sys2Proof.Machine
end

section
/-! PROOFS. DEV's move: what one byte from the camera does at an open and at a closed link. -/

namespace Sys2Proof.Machine

/-- Settles O40: the step sends the byte in the state whose schedule is shorter by it, and the two cases of
`devSend_cases` are the two states of the link. -/
theorem devByteQueuedOrDropped : Obligations.DevByteQueuedOrDropped := by
  intro s x rest ha
  rw [step_of_agenda_cons ha, runMove]
  rcases devSend_cases x { s with agenda := rest } with ⟨ho, hd⟩ | ⟨hc, hd⟩ <;> rw [hd]
  · exact ⟨fun _ => rfl, fun h => absurd (h.symm.trans ho) Bool.false_ne_true⟩
  · exact ⟨fun h => absurd (hc.symm.trans h) Bool.false_ne_true, fun _ => rfl⟩

end Sys2Proof.Machine
end

section
/-! PROOFS. ABORT, the block's trap entry: the list it writes and what it keeps. -/

namespace Sys2Proof.Machine

/-- Settles O37: the whole state after the abort is `abort_eq`, for every kind. -/
theorem abortWritesOnlyItsList : Obligations.AbortWritesOnlyItsList := abort_eq

end Sys2Proof.Machine
end

section
/-! PROOFS. The hardware reset from any state, and the end of every operation: how many moves CTRL has left, which
each of its moves lowers and no move of DEV's raises. -/

namespace Sys2Proof.Machine

/-! ### The hardware reset (rules R340, R341, R343) -/

/-- HOST's side and the schedule, which the reset keeps, are no registers of the block (rule R49; log entry 21). -/
theorem regRead_hardwareReset (s : State) (r : Nat) : regRead (hardwareReset s) r = regRead (State.resetWith s.cfg) r :=
  rfl

/-- Settles O38: the registers are those of `resetRegisterValues`, and the image is empty because `buf_len` is 0. -/
theorem hardwareResetFromAnyState : Obligations.HardwareResetFromAnyState := by
  intro s rest ha
  refine ⟨hardwareReset { s with agenda := rest }, step_of_agenda_cons ha, rfl, rfl, rfl, rfl,
    fun a => imgByte_of_bufLen_zero rfl a, fun r hr => ?_⟩
  rw [regRead_hardwareReset]
  exact resetRegisterValues s.cfg r hr

/-! ### The moves CTRL has left (rule R356) -/

/-- How many moves CTRL needs at most to end the operation in progress: the whole `ctrlBound` at a TX step, one less
once the frame is sent, one at the SWITCH step. -/
def ctrlLeft (s : State) : Nat :=
  match s.mstep with
  | .idle => 0
  | .tx => ctrlBound s
  | .rx => ctrlBound s - 1
  | .switch => 1

theorem ctrlLeft_of_idle {s : State} (h : s.mstep = .idle) : ctrlLeft s = 0 := by rw [ctrlLeft, h]

theorem ctrlLeft_of_tx {s : State} (h : s.mstep = .tx) : ctrlLeft s = ctrlBound s := by rw [ctrlLeft, h]

theorem ctrlLeft_of_rx {s : State} (h : s.mstep = .rx) : ctrlLeft s = ctrlBound s - 1 := by rw [ctrlLeft, h]

theorem ctrlLeft_of_switch {s : State} (h : s.mstep = .switch) : ctrlLeft s = 1 := by rw [ctrlLeft, h]

theorem ctrlBound_of_command {s : State} (h : s.sstate ≠ .uploading) : ctrlBound s = 3 := if_neg h

theorem ctrlBound_of_upload {s : State} (h : s.sstate = .uploading) :
    ctrlBound s = 2 * (s.packetCount.toNat + 1 - s.idx.toNat) := if_pos h

/-- The packet in hand needs a request and an answer. -/
theorem AtPacket.two_le_ctrlBound {s : State} (h : AtPacket s) : 2 ≤ ctrlBound s := by
  have hle := h.index_le
  rw [ctrlBound_of_upload h.session]
  omega

theorem State.Inv.two_le_ctrlBound {s : State} (h : s.Inv) : 2 ≤ ctrlBound s := by
  by_cases hu : s.sstate = .uploading
  · exact (h.atPacket hu).two_le_ctrlBound
  · rw [ctrlBound_of_command hu]
    decide

theorem State.Inv.ctrlLeft_le {s : State} (h : s.Inv) : ctrlLeft s ≤ ctrlBound s := by
  have hb := h.two_le_ctrlBound
  cases hm : s.mstep with
  | idle => simp only [ctrlLeft_of_idle hm, Nat.zero_le]
  | tx => rw [ctrlLeft_of_tx hm]
  | rx => rw [ctrlLeft_of_rx hm]; omega
  | switch => rw [ctrlLeft_of_switch hm]; omega

theorem State.Inv.idle_of_ctrlLeft {s : State} (h : s.Inv) (h0 : ctrlLeft s = 0) : s.mstep = .idle := by
  have hb := h.two_le_ctrlBound
  cases hm : s.mstep with
  | idle => rfl
  | tx => rw [ctrlLeft_of_tx hm] at h0; omega
  | rx => rw [ctrlLeft_of_rx hm] at h0; omega
  | switch => rw [ctrlLeft_of_switch hm] at h0; omega

/-! ### Each move of CTRL lowers the count -/

/-- A window that a command awaits ends the operation or leads to its SWITCH step (rules R173, R184, R211). -/
theorem cmdRx_mstep {v : List Byte} {s t : State} (h : cmdRx v s = .next t) : t.mstep = .idle ∨ t.mstep = .switch := by
  rcases cmdRx_cases v s with ⟨k, -, hc⟩ | ⟨r, -, ⟨-, ⟨k, -, hc⟩ | ⟨n, c, -, hc⟩⟩ | ⟨-, ⟨k, -, hc⟩ | ⟨-, hc⟩⟩⟩ <;>
    rw [hc] at h
  · cases h
    exact .inl (abort_mstep ..)
  · cases h
    exact .inl (abort_mstep ..)
  · cases h
    exact .inl (commitCapture_mstep ..)
  · cases h
    exact .inl (abort_mstep ..)
  · rcases commit_cases (received v 13 s) with ⟨-, hn⟩ | ⟨-, hn⟩ | ⟨-, hn⟩ | ⟨-, hn⟩ <;> rw [hn] at h <;> cases h
    · exact .inr rfl
    · exact .inl rfl
    · exact .inl rfl

theorem switchStep_mstep (s : State) : (switchStep s).mstep = .idle := by
  rcases switchStep_cases s with ⟨-, h⟩ | ⟨-, h⟩ <;> rw [h]
  exact abort_mstep ..

theorem AtCommand.ctrlLeft_ctrlMove {s t : State} (h : AtCommand s) (ht : ctrlMove s = .next t) :
    ctrlLeft t < ctrlLeft s := by
  have hu := h.not_uploading
  rcases ctrlMove_cases s with
    ⟨hm, -⟩ | ⟨-, hu', -⟩ | ⟨hm, -, hc⟩ | ⟨hm, -, hc⟩ | ⟨hm, -, hc⟩ | ⟨hm, hc⟩
  · exact absurd hm h.busy
  · exact absurd hu' hu
  · cases hc.symm.trans ht
    rw [ctrlLeft_of_tx hm, ctrlLeft_of_rx (cmdTx_mstep s), ctrlBound_of_command hu,
      ctrlBound_of_command (by simpa using hu)]
    decide
  · rw [rxWindow, if_neg hu] at hc
    rw [ctrlLeft_of_rx hm, ctrlBound_of_command hu]
    rcases cmdRx_mstep (hc.symm.trans ht) with hi | hw
    · rw [ctrlLeft_of_idle hi]
      decide
    · rw [ctrlLeft_of_switch hw]
      decide
  · rw [rxTimeout, if_neg hu] at hc
    cases hc.symm.trans ht
    rw [ctrlLeft_of_rx hm, ctrlBound_of_command hu, ctrlLeft_of_idle (abort_mstep ..)]
    decide
  · cases hc.symm.trans ht
    rw [ctrlLeft_of_switch hm, ctrlLeft_of_idle (switchStep_mstep s)]
    decide

/-- NEXT after the packet in hand ends the upload, or leaves two moves fewer than its request had (rule R231). -/
theorem AtPacket.ctrlLeft_advance {s u : State} (h : AtPacket s) (hr : s.mstep = .rx) (hs : u.sstate = s.sstate)
    (hi : u.idx = s.idx) (hn : u.packetCount = s.packetCount) : ctrlLeft (advance u) < ctrlLeft s := by
  have hb := h.two_le_ctrlBound
  rw [ctrlLeft_of_rx hr]
  rcases advance_cases u with ⟨-, he⟩ | ⟨hne, he⟩ <;> rw [he]
  · rw [ctrlLeft_of_idle rfl]
    omega
  · have hlt : s.idx.toNat < s.packetCount.toNat :=
      lt_of_le_of_ne h.index_le fun hc => hne (hi.trans ((BitVec.eq_of_toNat_eq hc).trans hn.symm))
    have hu : ({ u with idx := u.idx + 1, mstep := .tx } : State).sstate = .uploading := hs.trans h.session
    rw [ctrlLeft_of_tx rfl, ctrlBound_of_upload hu, ctrlBound_of_upload h.session]
    simp only [hi, hn, toNat_add_one_of_lt hlt]
    omega

theorem AtPacket.ctrlLeft_ctrlMove {s t : State} (h : AtPacket s) (ht : ctrlMove s = .next t) :
    ctrlLeft t < ctrlLeft s := by
  cases h.ctrlMove_step ht with
  | requested hm =>
    have hb := h.two_le_ctrlBound
    have heq : ctrlBound (Machine.upTx s.idx s.packetCount s) = ctrlBound s := by simp [ctrlBound]
    rw [ctrlLeft_of_tx hm, ctrlLeft_of_rx (upTx_mstep ..), heq]
    omega
  | timedOut hr | skipped k hr | appended hr => exact h.ctrlLeft_advance hr (by simp) (by simp) (by simp)

/-- While an operation is in progress, each move of CTRL brings its end nearer (rule R356). -/
theorem ctrlLeft_ctrlMove {s t : State} (h : s.Inv) (hb : s.mstep ≠ .idle) (ht : ctrlMove s = .next t) :
    ctrlLeft t < ctrlLeft s := by
  by_cases hu : s.sstate = .uploading
  · exact (h.atPacket hu).ctrlLeft_ctrlMove ht
  · exact (h.atCommand hb hu).ctrlLeft_ctrlMove ht

/-- A byte of DEV's is no progress and no setback (rule R262). -/
theorem ctrlLeft_devSend (x : Byte) (s : State) : ctrlLeft (devSend x s) = ctrlLeft s := by
  rcases devSend_cases x s with ⟨-, h⟩ | ⟨-, h⟩ <;> rw [h]
  rfl

/-- If CTRL has enough moves scheduled before a move of DEV or CTRL, it has enough after it. -/
theorem ctrlLeft_runMove {s t : State} {m : Move} {rest : List Move} (h : s.Inv) (hm : m.isDevOrCtrl = true)
    (ht : runMove m s = .next t) (hc : ctrlLeft s ≤ (m :: rest).count .ctrl) : ctrlLeft t ≤ rest.count .ctrl := by
  cases m with
  | dev x =>
    cases ht
    rwa [ctrlLeft_devSend, ← List.count_cons_of_ne (b := .dev x) (by simp)]
  | ctrl =>
    rw [List.count_cons_self] at hc
    have ht : ctrlMove s = .next t := ht
    by_cases hi : s.mstep = .idle
    · cases (ctrlMove_of_idle hi).symm.trans ht
      rw [ctrlLeft_of_idle hi]
      exact Nat.zero_le _
    · have hlt := ctrlLeft_ctrlMove h hi ht
      omega
  | host | writeCtrl | readReg | readImg | hwReset => cases hm

/-! ### The run to the end -/

@[simp] theorem judged_agenda (s : State) : (judged s).agenda = s.agenda := rfl

@[simp] theorem advance_agenda (s : State) : (advance s).agenda = s.agenda := by rw [advance_eq]

/-- No move writes the schedule (log entry 1). -/
theorem MoveEffect.agenda_eq {s t : State} {m : Move} (e : MoveEffect s m t) : t.agenda = s.agenda := by
  cases e with
  | hardwareReset => rfl
  | _ => simp [hostReadImg] -- no other effect names the schedule

/-- A move of DEV or CTRL always answers (rule R356). -/
theorem runMove_answers_of_devOrCtrl {s : State} {m : Move} (h : s.Inv) (hm : m.isDevOrCtrl = true) :
    ∃ t, runMove m s = .next t := by
  rcases runMove_answers h m with ht | ⟨r, -, rfl, -⟩
  · exact ht
  · cases hm

/-- A schedule of DEV's and CTRL's with enough moves of CTRL in it ends the operation, by induction on the schedule. -/
theorem run_to_idle {s : State} {moves : List Move} (h : s.Inv) (ha : s.agenda = moves)
    (hm : ∀ m ∈ moves, m.isDevOrCtrl = true) (hc : ctrlLeft s ≤ moves.count .ctrl) :
    ∃ t, Host.Core.run core moves.length s = .next t ∧ t.mstep = .idle := by
  induction moves generalizing s with
  | nil => exact ⟨s, rfl, h.idle_of_ctrlLeft (Nat.le_zero.mp hc)⟩
  | cons m rest ih =>
    have hinv := inv_of_hostSide h s.ctrl rest s.hostReg s.hostMem s.draws
    have hmove := hm m List.mem_cons_self
    obtain ⟨u, hu⟩ := runMove_answers_of_devOrCtrl hinv hmove
    have heffect := runMove_effect hu
    obtain ⟨t, hrun, hidle⟩ := ih (heffect.inv hinv) heffect.agenda_eq
      (fun m' hm' => hm m' (List.mem_cons_of_mem m hm')) (ctrlLeft_runMove hinv hmove hu hc)
    exact ⟨t, run_of_step ((step_of_agenda_cons ha).trans hu) hrun, hidle⟩

/-- Settles O48: what CTRL has left is within `ctrlBound`. -/
theorem operationsEnd : Obligations.OperationsEnd := fun _ h _ hm hc =>
  run_to_idle h rfl hm (h.ctrlLeft_le.trans hc)

end Sys2Proof.Machine
end

section
/-! PROOFS. The opcode table's numbering of words: a word the encoder writes for an instruction is read as that
instruction. -/

namespace Sys2Proof

/-- A 40-bit row of the table is read as the host command word it numbers (rule R104). -/
theorem decodeTableWord_of_encode_hcw {c : Cfg} {i : Instr} {n : Nat} (hi : WellFormed i = true)
    (h : encode c i = .hcw (BitVec.ofNat 40 n)) : decodeTableWord 40 n = some i :=
  congrArg some (decodeHcw_of_encode hi h)

/-- A row of any other width is read as the received window it numbers (rule R102; log entry 11). -/
theorem decodeTableWord_of_encode_reply {c : Cfg} {i : Instr} {nbits n : Nat} (hw : nbits ≠ 40)
    (hi : WellFormed i = true) (h : encode c i = .reply (tableBytes nbits n)) : decodeTableWord nbits n = some i := by
  rw [decodeTableWord, if_neg hw, decodeReply_of_encode hi h]
  rfl

/-- Settles O5: each number is that of the word the encoder writes for its row, the host words under
`decodeTableWord_of_encode_hcw` and the 13-byte reply under `decodeTableWord_of_encode_reply`. -/
theorem tableWordsDecode : Obligations.TableWordsDecode := by
  refine ⟨?_, ?_, ?_, ?_, ?_, ?_⟩
  case refine_6 => exact decodeTableWord_of_encode_reply (c := Config.cfg) (by decide) rfl rfl
  all_goals exact decodeTableWord_of_encode_hcw (c := Config.cfg) rfl rfl

end Sys2Proof
end
